-- ==== Sys2Proof/Word.lean ====
section
/-! DEFINITION. The words of the GK2140: the widths of Chapter 11, Table 11-1. -/

namespace Sys2Proof

/-- One byte of a frame (R185). -/
abbrev Byte := BitVec 8

/-- A 2-byte field: a stream, block, slot or count (Table 11-1). -/
abbrev Half := BitVec 16

/-- A 4-byte field: a tag, serial, tick, deadline or close sequence (Tables 11-1, 11-8). -/
abbrev Word := BitVec 32

/-- A 48-bit logical block address (R185). -/
abbrev Lba := BitVec 48

/-- A 64-bit die mask, bit d for die d (Table 11-8). -/
abbrev DieMask := BitVec 64

end Sys2Proof
end

