-- ==== Sys2Proof/Config.lean ====
section
/-! DEFINITION. What is fixed for every GK2140: the capacities of Table 0-3.
The spec leaves no value of an operation open, so no free value is declared here. -/

namespace Sys2Proof.Config

/-- Stream contexts (R1). -/
def streams : Nat := 1024

/-- Function records (R4). -/
def functions : Nat := 256

/-- RECLAIM streams open at once (R10). -/
def reclaimStreams : Nat := 32

/-- Fragment records (R47). -/
def records : Nat := 4096

/-- Batch Table slots (R95). -/
def slots : Nat := 512

/-- Die records (R72). -/
def dies : Nat := 64

/-- Capacity of a die's free queue (Table 4-3). -/
def freeQueue : Nat := 32

/-- Request buffers of a port, and response buffers of a port (Table 9-1). -/
def portBuffers : Nat := 2

/-- Largest frame payload in bytes (R165). -/
def maxPayload : Nat := 1280

end Sys2Proof.Config
end

