-- ==== Sys2Proof/Syntax.lean ====
section
/-! DEFINITION. The commands of the GK2140: one constructor for each row of spec/opcode_table.json.
Operands have the widths of Table 11-3. An enumerated field is carried as its byte, because a frame can
carry any byte there and the owner's rule answers it (R186). -/

namespace Sys2Proof

/-- The four message ports (Table 0-1). -/
inductive Port where
  | fp | mp0 | mp1 | rp
  deriving DecidableEq, Repr

/-- The port a request comes on, and whether its frame has the CRC mark (R185). -/
structure Via where
  port : Port
  crc  : Bool
  deriving DecidableEq, Repr

/-- A segment named in a request: die, then block (Table 11-3). -/
structure SegmentName where
  die   : Byte
  block : Half
  deriving DecidableEq, Repr

/-- One entry of INVALIDATE: segment and sector count (Table 11-3). -/
structure StaleEntry where
  die   : Byte
  block : Half
  count : Half
  deriving DecidableEq, Repr

/-- One 12-byte entry of LOAD SEGMENT (section 11.2). -/
structure LoadEntry where
  kind  : Byte
  die   : Byte
  block : Half
  valid : Half
  age   : Word
  cls   : Byte
  flags : Byte
  deriving DecidableEq, Repr

/-- The commands. A constructor whose first operand is a `Via` is a request kind of Table 11-3. -/
inductive Instr where
  /-- R164: a frame of these bytes arrives on the port. -/
  | requestFrameArrival (p : Port) (frame : List Byte)
  /-- R165: a frame that fails the PIU checks is executed as a refusal. -/
  | invalidFrame (p : Port) (frame : List Byte)
  /-- R168: the port's master reads `n` bytes of its oldest response. -/
  | responseRead (p : Port) (n : Nat)
  /-- R169: a reset of the port's link. -/
  | portReset (p : Port)
  /-- R176: the RESET input. -/
  | powerOnReset
  /-- R158: POWER-FAIL is asserted. -/
  | powerFailAssertion
  /-- R158: POWER-FAIL is deasserted. -/
  | powerFailDeassertion
  /-- R177: the ms tick advances. -/
  | msTick
  /-- R67: the armed seal of a stream expires. -/
  | sealExpiry (stream : Nat)
  /-- R122: the deadline of the batch in a slot expires. -/
  | batchDeadlineExpiry (slot : Nat)
  /-- R26: on FP `fn` and `hint` name the stream, on RP `stream` does. -/
  | submit (v : Via) (fn hint : Byte) (stream : Half) (tag : Word) (lba : Lba) (region : Byte) (offset : Word) (n : Byte)
  /-- R149. -/
  | flushFunction (v : Via) (fn : Half) (tag : Word)
  /-- R10, R11. -/
  | openStream (v : Via) (fn depth : Byte) (mask : DieMask)
  /-- R12, R13. -/
  | bind (v : Via) (fn hint : Byte) (stream : Half)
  /-- R14. -/
  | unbind (v : Via) (fn hint : Byte)
  /-- R15. -/
  | setStreamMode (v : Via) (stream : Half) (mode : Byte)
  /-- R16, R17. -/
  | closeStream (v : Via) (stream : Half)
  /-- R120. -/
  | resumeStream (v : Via) (stream : Half)
  /-- R121. -/
  | discardStream (v : Via) (stream : Half)
  /-- R42, R43. -/
  | setFunction (v : Via) (fn enable : Byte) (reserve cap timeout : Half)
  /-- R152. -/
  | fenceFunction (v : Via) (fn : Half) (mode : Byte)
  /-- R157. -/
  | unfenceFunction (v : Via) (fn : Half)
  /-- R74, R75. -/
  | supply (v : Via) (entries : List SegmentName)
  /-- R101: the plain form, with an empty payload. -/
  | takeBatch (v : Via)
  /-- R102: the repeat form, with a ticket. -/
  | takeBatchRepeat (v : Via) (slot : Half) (gen : Byte)
  /-- R106: a BATCH RESULT whose result byte is 0, DONE. -/
  | batchResultDone (v : Via) (slot : Half) (gen : Byte)
  /-- R114: a BATCH RESULT whose result byte is not 0. 1 is FAILED; any other is no result (R103 check 2). -/
  | batchResultFailed (v : Via) (slot : Half) (gen : Byte) (result : Byte)
  /-- R131, R132. -/
  | invalidate (v : Via) (entries : List StaleEntry)
  /-- R139, R140. -/
  | nominate (v : Via) (scope policy filter count : Byte)
  /-- R144. -/
  | returnSegment (v : Via) (g : SegmentName)
  /-- R145. -/
  | releaseSegment (v : Via) (g : SegmentName)
  /-- R147. -/
  | retireSegment (v : Via) (g : SegmentName)
  /-- R178. -/
  | setGeometry (v : Via) (dies : Byte) (blocks units : Half) (sectors : Byte)
  /-- R178. -/
  | lockGeometry (v : Via)
  /-- R179. -/
  | setLimits (v : Via) (selector : Byte) (value : Half)
  /-- R180: the core byte of each of the 64 dies. -/
  | setDieMap (v : Via) (cores : List Byte)
  /-- R181. -/
  | loadSegment (v : Via) (entries : List LoadEntry)
  /-- R182. -/
  | start (v : Via)
  /-- R183. -/
  | restart (v : Via)
  /-- R22. -/
  | queryStream (v : Via) (stream : Half)
  /-- R45. -/
  | queryFunction (v : Via) (fn : Half)
  /-- R93. -/
  | querySegment (v : Via) (g : SegmentName)
  /-- R94. -/
  | queryDie (v : Via) (die : Byte)
  /-- R184. -/
  | queryDevice (v : Via)
  /-- R172. -/
  | collect (v : Via) (count : Byte)
  /-- R174. -/
  | setNotice (v : Via) (mode : Byte)
  /-- R55: a PENDING-REPORT record is reported. -/
  | fragmentDone (record : Nat)
  /-- R150: a completed flush is reported. -/
  | flushDone (fn : Nat)
  /-- R18: the close of a DRAINING stream completes. -/
  | streamClosed (stream : Nat)
  /-- R156: the fence of a function completes. -/
  | fenceComplete (fn : Nat)
  /-- R160: the drain completes. -/
  | drainComplete
  /-- R59: a die's slot arbiter grants. -/
  | dieSlotGrant (die : Nat)
  /-- R85: the WAIT-SUPPLY arbiter serves a die. -/
  | waitSupplyServe (die : Nat)
  /-- R173: the pulse on a port's NOTICE line ends. -/
  | noticePulseEnd (p : Port)
  deriving DecidableEq, Repr

/-- The port and CRC mark of a request; a command that is no request has none, and stands as FP unmarked. -/
def Instr.via : Instr → Via
  | .submit v _ _ _ _ _ _ _ _ => v
  | .flushFunction v _ _ => v
  | .openStream v _ _ _ => v
  | .bind v _ _ _ => v
  | .unbind v _ _ => v
  | .setStreamMode v _ _ => v
  | .closeStream v _ => v
  | .resumeStream v _ => v
  | .discardStream v _ => v
  | .setFunction v _ _ _ _ _ => v
  | .fenceFunction v _ _ => v
  | .unfenceFunction v _ => v
  | .supply v _ => v
  | .takeBatch v => v
  | .takeBatchRepeat v _ _ => v
  | .batchResultDone v _ _ => v
  | .batchResultFailed v _ _ _ => v
  | .invalidate v _ => v
  | .nominate v _ _ _ _ => v
  | .returnSegment v _ => v
  | .releaseSegment v _ => v
  | .retireSegment v _ => v
  | .setGeometry v _ _ _ _ => v
  | .lockGeometry v => v
  | .setLimits v _ _ => v
  | .setDieMap v _ => v
  | .loadSegment v _ => v
  | .start v => v
  | .restart v => v
  | .queryStream v _ => v
  | .queryFunction v _ => v
  | .querySegment v _ => v
  | .queryDie v _ => v
  | .queryDevice v => v
  | .collect v _ => v
  | .setNotice v _ => v
  | .requestFrameArrival _ _ | .invalidFrame _ _ | .responseRead _ _ | .portReset _ | .powerOnReset
  | .powerFailAssertion | .powerFailDeassertion | .msTick | .sealExpiry _ | .batchDeadlineExpiry _
  | .fragmentDone _ | .flushDone _ | .streamClosed _ | .fenceComplete _ | .drainComplete
  | .dieSlotGrant _ | .waitSupplyServe _ | .noticePulseEnd _ => ⟨.fp, false⟩

/-- The request kinds: the commands that a master sends as a frame of Table 11-3. -/
def Instr.isRequest : Instr → Bool
  | .requestFrameArrival _ _ | .invalidFrame _ _ | .responseRead _ _ | .portReset _ | .powerOnReset
  | .powerFailAssertion | .powerFailDeassertion | .msTick | .sealExpiry _ | .batchDeadlineExpiry _
  | .fragmentDone _ | .flushDone _ | .streamClosed _ | .fenceComplete _ | .drainComplete
  | .dieSlotGrant _ | .waitSupplyServe _ | .noticePulseEnd _ => false
  | .submit _ _ _ _ _ _ _ _ _ | .flushFunction _ _ _ | .openStream _ _ _ _ | .bind _ _ _ _ | .unbind _ _ _
  | .setStreamMode _ _ _ | .closeStream _ _ | .resumeStream _ _ | .discardStream _ _ | .setFunction _ _ _ _ _ _
  | .fenceFunction _ _ _ | .unfenceFunction _ _ | .supply _ _ | .takeBatch _ | .takeBatchRepeat _ _ _
  | .batchResultDone _ _ _ | .batchResultFailed _ _ _ _ | .invalidate _ _ | .nominate _ _ _ _ _
  | .returnSegment _ _ | .releaseSegment _ _ | .retireSegment _ _ | .setGeometry _ _ _ _ _ | .lockGeometry _
  | .setLimits _ _ _ | .setDieMap _ _ | .loadSegment _ _ | .start _ | .restart _ | .queryStream _ _
  | .queryFunction _ _ | .querySegment _ _ | .queryDie _ _ | .queryDevice _ | .collect _ _ | .setNotice _ _ => true

end Sys2Proof
end

