-- ==== Sys2Proof/WellFormed.lean ====
section
/-! DEFINITION. Which commands are well formed: a list that its frame can carry, an index that exists.
A command that is not well formed still has a meaning: a request becomes the bytes it would be sent as and
fails the PIU checks (R165), and an index outside its table finds the power-on entry there. -/

namespace Sys2Proof

/-- The most entries of a LOAD SEGMENT payload of at most 1,280 bytes: 1 + 12 × 106 = 1,273 (R165 check 2, R186). -/
def maxLoadEntries : Nat := 106

/-- The most entries a 1-byte count declares (R186). -/
def maxCountedEntries : Nat := 255

/-- Well-formedness of a command, one check for each constructor that can fail it. -/
def Instr.wellFormed : Instr → Bool
  | .sealExpiry i => i < Config.streams
  | .batchDeadlineExpiry k => k < Config.slots
  | .supply _ es => es.length ≤ maxCountedEntries
  | .batchResultFailed _ _ _ r => r ≠ 0
  | .invalidate _ es => es.length ≤ maxCountedEntries
  | .setDieMap _ cs => cs.length = Config.dies
  | .loadSegment _ es => es.length ≤ maxLoadEntries
  | .fragmentDone r => r < Config.records
  | .flushDone f => f < Config.functions
  | .streamClosed i => i < Config.streams
  | .fenceComplete f => f < Config.functions
  | .dieSlotGrant d => d < Config.dies
  | .waitSupplyServe d => d < Config.dies
  | .requestFrameArrival _ _ | .invalidFrame _ _ | .responseRead _ _ | .portReset _ | .powerOnReset
  | .powerFailAssertion | .powerFailDeassertion | .msTick | .submit _ _ _ _ _ _ _ _ _ | .flushFunction _ _ _
  | .openStream _ _ _ _ | .bind _ _ _ _ | .unbind _ _ _ | .setStreamMode _ _ _ | .closeStream _ _
  | .resumeStream _ _ | .discardStream _ _ | .setFunction _ _ _ _ _ _ | .fenceFunction _ _ _
  | .unfenceFunction _ _ | .takeBatch _ | .takeBatchRepeat _ _ _ | .batchResultDone _ _ _ | .nominate _ _ _ _ _
  | .returnSegment _ _ | .releaseSegment _ _ | .retireSegment _ _ | .setGeometry _ _ _ _ _ | .lockGeometry _
  | .setLimits _ _ _ | .start _ | .restart _ | .queryStream _ _ | .queryFunction _ _ | .querySegment _ _
  | .queryDie _ _ | .queryDevice _ | .collect _ _ | .setNotice _ _ | .drainComplete | .noticePulseEnd _ => true

end Sys2Proof
end

