-- ==== Sys2Proof/Decode.lean ====
section
/-! DEFINITION. Frames (R185, R186): the bytes of a field, the CRC of R165, the reading of a request frame
(checks 1 to 5 of R165) and the frame a request is sent as. The rows of spec/opcode_table.json give no bits,
so `decodeTableWord` answers none. -/

namespace Sys2Proof

/-! ### Byte order: least significant byte first (R185) -/

/-- The two bytes of a 2-byte field. -/
def bytes16 (x : Half) : List Byte := [x.extractLsb' 0 8, x.extractLsb' 8 8]

/-- The four bytes of a 4-byte field. -/
def bytes32 (x : Word) : List Byte := [x.extractLsb' 0 8, x.extractLsb' 8 8, x.extractLsb' 16 8, x.extractLsb' 24 8]

/-- The six bytes of an LBA. -/
def bytes48 (x : Lba) : List Byte :=
  [x.extractLsb' 0 8, x.extractLsb' 8 8, x.extractLsb' 16 8, x.extractLsb' 24 8, x.extractLsb' 32 8, x.extractLsb' 40 8]

/-- The eight bytes of a die mask. -/
def bytes64 (x : DieMask) : List Byte :=
  [x.extractLsb' 0 8, x.extractLsb' 8 8, x.extractLsb' 16 8, x.extractLsb' 24 8,
   x.extractLsb' 32 8, x.extractLsb' 40 8, x.extractLsb' 48 8, x.extractLsb' 56 8]

/-- A 2-byte field from its bytes in the order sent. -/
def join16 (a b : Byte) : Half := b ++ a

/-- A 4-byte field from its bytes in the order sent. -/
def join32 (a b c d : Byte) : Word := d ++ (c ++ (b ++ a))

/-- An LBA from its bytes in the order sent. -/
def join48 (a b c d e f : Byte) : Lba := f ++ (e ++ (d ++ (c ++ (b ++ a))))

/-- A die mask from its bytes in the order sent. -/
def join64 (a b c d e f g h : Byte) : DieMask := h ++ (g ++ (f ++ (e ++ (d ++ (c ++ (b ++ a))))))

/-! ### The CRC of R165 -/

/-- One shift of the CRC register: left by one, combined with 07h when a 1 left the top. -/
def crcShift (r : Byte) : Byte := if r.msb then (r <<< 1) ^^^ 0x07#8 else r <<< 1

/-- One byte combined into the register, then eight shifts. -/
def crcByte (r b : Byte) : Byte :=
  crcShift (crcShift (crcShift (crcShift (crcShift (crcShift (crcShift (crcShift (r ^^^ b))))))))

/-- R165: polynomial 07h, register starting at FFh, bytes not reflected, no final inversion. -/
def crc8 (bs : List Byte) : Byte := bs.foldl crcByte 0xFF#8

/-! ### Request frames -/

/-- The kind code of a request (Table 11-3). A command that is no request has 0, which is no kind (R185). -/
def Instr.kind : Instr → Byte
  | .submit _ _ _ _ _ _ _ _ _ => 0x01
  | .flushFunction _ _ _ => 0x02
  | .openStream _ _ _ _ => 0x03
  | .bind _ _ _ _ => 0x04
  | .unbind _ _ _ => 0x05
  | .setStreamMode _ _ _ => 0x06
  | .closeStream _ _ => 0x07
  | .resumeStream _ _ => 0x08
  | .discardStream _ _ => 0x09
  | .setFunction _ _ _ _ _ _ => 0x0A
  | .fenceFunction _ _ _ => 0x0B
  | .unfenceFunction _ _ => 0x0C
  | .supply _ _ => 0x0D
  | .takeBatch _ => 0x0E
  | .takeBatchRepeat _ _ _ => 0x0E
  | .batchResultDone _ _ _ => 0x0F
  | .batchResultFailed _ _ _ _ => 0x0F
  | .invalidate _ _ => 0x10
  | .nominate _ _ _ _ _ => 0x11
  | .returnSegment _ _ => 0x12
  | .releaseSegment _ _ => 0x13
  | .retireSegment _ _ => 0x14
  | .setGeometry _ _ _ _ _ => 0x15
  | .lockGeometry _ => 0x16
  | .setLimits _ _ _ => 0x17
  | .setDieMap _ _ => 0x18
  | .loadSegment _ _ => 0x19
  | .start _ => 0x1A
  | .restart _ => 0x1B
  | .queryStream _ _ => 0x1C
  | .queryFunction _ _ => 0x1D
  | .querySegment _ _ => 0x1E
  | .queryDie _ _ => 0x1F
  | .queryDevice _ => 0x20
  | .collect _ _ => 0x21
  | .setNotice _ _ => 0x22
  | .requestFrameArrival _ _ | .invalidFrame _ _ | .responseRead _ _ | .portReset _ | .powerOnReset
  | .powerFailAssertion | .powerFailDeassertion | .msTick | .sealExpiry _ | .batchDeadlineExpiry _
  | .fragmentDone _ | .flushDone _ | .streamClosed _ | .fenceComplete _ | .drainComplete
  | .dieSlotGrant _ | .waitSupplyServe _ | .noticePulseEnd _ => 0x00

/-- The bytes of one SUPPLY entry, or of a segment named alone. -/
def SegmentName.bytes (g : SegmentName) : List Byte := g.die :: bytes16 g.block

/-- The bytes of one INVALIDATE entry. -/
def StaleEntry.bytes (e : StaleEntry) : List Byte := e.die :: (bytes16 e.block ++ bytes16 e.count)

/-- The bytes of one LOAD SEGMENT entry. -/
def LoadEntry.bytes (e : LoadEntry) : List Byte :=
  e.kind :: e.die :: (bytes16 e.block ++ bytes16 e.valid ++ bytes32 e.age ++ [e.cls, e.flags])

/-- A declared count, then its entries (R186). -/
def countedBytes {α : Type} (entry : α → List Byte) (es : List α) : List Byte :=
  BitVec.ofNat 8 es.length :: es.flatMap entry

/-- The payload of a request (R186, Table 11-3). -/
def Instr.payload : Instr → List Byte
  | .submit _ fn hint stream tag lba region offset n =>
      [fn, hint] ++ bytes16 stream ++ bytes32 tag ++ bytes48 lba ++ [region] ++ bytes32 offset ++ [n]
  | .flushFunction _ fn tag => bytes16 fn ++ bytes32 tag
  | .openStream _ fn depth mask => [fn, depth] ++ bytes64 mask
  | .bind _ fn hint stream => [fn, hint] ++ bytes16 stream
  | .unbind _ fn hint => [fn, hint]
  | .setStreamMode _ stream mode => bytes16 stream ++ [mode]
  | .closeStream _ stream => bytes16 stream
  | .resumeStream _ stream => bytes16 stream
  | .discardStream _ stream => bytes16 stream
  | .setFunction _ fn enable r c t => [fn, enable] ++ bytes16 r ++ bytes16 c ++ bytes16 t
  | .fenceFunction _ fn mode => bytes16 fn ++ [mode]
  | .unfenceFunction _ fn => bytes16 fn
  | .supply _ es => countedBytes SegmentName.bytes es
  | .takeBatch _ => []
  | .takeBatchRepeat _ slot gen => bytes16 slot ++ [gen]
  | .batchResultDone _ slot gen => bytes16 slot ++ [gen, 0]
  | .batchResultFailed _ slot gen result => bytes16 slot ++ [gen, result]
  | .invalidate _ es => countedBytes StaleEntry.bytes es
  | .nominate _ scope policy filter count => [scope, policy, filter, count]
  | .returnSegment _ g => g.bytes
  | .releaseSegment _ g => g.bytes
  | .retireSegment _ g => g.bytes
  | .setGeometry _ d s p u => [d] ++ bytes16 s ++ bytes16 p ++ [u]
  | .lockGeometry _ => []
  | .setLimits _ sel value => sel :: bytes16 value
  | .setDieMap _ cores => cores
  | .loadSegment _ es => countedBytes LoadEntry.bytes es
  | .start _ => []
  | .restart _ => []
  | .queryStream _ stream => bytes16 stream
  | .queryFunction _ fn => bytes16 fn
  | .querySegment _ g => g.bytes
  | .queryDie _ die => [die]
  | .queryDevice _ => []
  | .collect _ count => [count]
  | .setNotice _ mode => [mode]
  | .requestFrameArrival _ _ | .invalidFrame _ _ | .responseRead _ _ | .portReset _ | .powerOnReset
  | .powerFailAssertion | .powerFailDeassertion | .msTick | .sealExpiry _ | .batchDeadlineExpiry _
  | .fragmentDone _ | .flushDone _ | .streamClosed _ | .fenceComplete _ | .drainComplete
  | .dieSlotGrant _ | .waitSupplyServe _ | .noticePulseEnd _ => []

/-- A frame's flags byte: bit 0 is the CRC mark, the bits above it are sent as 0 (R185). -/
def flagsByte (crc : Bool) : Byte := if crc then 1 else 0

/-- A header and payload, closed by the CRC byte when the mark is set (R185). -/
def withCrc (crc : Bool) (bs : List Byte) : List Byte := if crc then bs ++ [crc8 bs] else bs

/-- R185: the 4-byte request header, then the payload, then the CRC byte. -/
def requestFrame (crc : Bool) (kind : Byte) (payload : List Byte) : List Byte :=
  withCrc crc ([kind, flagsByte crc] ++ bytes16 (BitVec.ofNat 16 payload.length) ++ payload)

/-- The frame a request is sent as. -/
def Instr.frame (i : Instr) : List Byte := requestFrame i.via.crc i.kind i.payload

/-- What the PIU's checks 1 to 5 make of a frame (R165): a request, or FRAME, or UNKNOWN. -/
inductive Reading where
  | request (i : Instr)
  | badFrame
  | unknownKind
  deriving DecidableEq, Repr

/-- The entries of a SUPPLY payload after its count. -/
def readSegments : List Byte → List SegmentName
  | d :: b0 :: b1 :: t => ⟨d, join16 b0 b1⟩ :: readSegments t
  | _ => []

/-- The entries of an INVALIDATE payload after its count. -/
def readStale : List Byte → List StaleEntry
  | d :: b0 :: b1 :: c0 :: c1 :: t => ⟨d, join16 b0 b1, join16 c0 c1⟩ :: readStale t
  | _ => []

/-- The entries of a LOAD SEGMENT payload after its count. -/
def readLoads : List Byte → List LoadEntry
  | k :: d :: b0 :: b1 :: v0 :: v1 :: a0 :: a1 :: a2 :: a3 :: c :: f :: t =>
      ⟨k, d, join16 b0 b1, join16 v0 v1, join32 a0 a1 a2 a3, c, f⟩ :: readLoads t
  | _ => []

/-- A kind that carries a list: byte 0 is the count, and the length must agree with it (R165 check 5, R186). -/
def readCounted (width : Nat) (payload : List Byte) (build : List Byte → Instr) : Reading :=
  match payload with
  | [] => .badFrame
  | c :: t => if t.length = width * c.toNat then .request (build t) else .badFrame

/-- A kind that carries a segment alone. -/
def readSegmentName (payload : List Byte) (build : SegmentName → Instr) : Reading :=
  match payload with
  | [d, b0, b1] => .request (build ⟨d, join16 b0 b1⟩)
  | _ => .badFrame

/-- A kind that carries one 2-byte field. -/
def readHalf (payload : List Byte) (build : Half → Instr) : Reading :=
  match payload with
  | [a, b] => .request (build (join16 a b))
  | _ => .badFrame

/-- A kind that carries nothing. -/
def readEmpty (payload : List Byte) (i : Instr) : Reading :=
  match payload with
  | [] => .request i
  | _ => .badFrame

/-- Checks 4 and 5 of R165: the kind is one of Table 11-3, and the payload has the length it requires. -/
def readPayload (v : Via) (kind : Byte) (pl : List Byte) : Reading :=
  match kind.toNat with
  | 0x01 => match pl with
    | [fn, hint, s0, s1, t0, t1, t2, t3, l0, l1, l2, l3, l4, l5, region, o0, o1, o2, o3, n] =>
      .request (.submit v fn hint (join16 s0 s1) (join32 t0 t1 t2 t3) (join48 l0 l1 l2 l3 l4 l5) region
        (join32 o0 o1 o2 o3) n)
    | _ => .badFrame
  | 0x02 => match pl with
    | [f0, f1, t0, t1, t2, t3] => .request (.flushFunction v (join16 f0 f1) (join32 t0 t1 t2 t3))
    | _ => .badFrame
  | 0x03 => match pl with
    | [fn, depth, a, b, c, d, e, f, g, h] => .request (.openStream v fn depth (join64 a b c d e f g h))
    | _ => .badFrame
  | 0x04 => match pl with
    | [fn, hint, s0, s1] => .request (.bind v fn hint (join16 s0 s1))
    | _ => .badFrame
  | 0x05 => match pl with
    | [fn, hint] => .request (.unbind v fn hint)
    | _ => .badFrame
  | 0x06 => match pl with
    | [s0, s1, mode] => .request (.setStreamMode v (join16 s0 s1) mode)
    | _ => .badFrame
  | 0x07 => readHalf pl (.closeStream v)
  | 0x08 => readHalf pl (.resumeStream v)
  | 0x09 => readHalf pl (.discardStream v)
  | 0x0A => match pl with
    | [fn, enable, r0, r1, c0, c1, t0, t1] =>
      .request (.setFunction v fn enable (join16 r0 r1) (join16 c0 c1) (join16 t0 t1))
    | _ => .badFrame
  | 0x0B => match pl with
    | [f0, f1, mode] => .request (.fenceFunction v (join16 f0 f1) mode)
    | _ => .badFrame
  | 0x0C => readHalf pl (.unfenceFunction v)
  | 0x0D => readCounted 3 pl fun t => .supply v (readSegments t)
  | 0x0E => match pl with
    | [] => .request (.takeBatch v)
    | [s0, s1, gen] => .request (.takeBatchRepeat v (join16 s0 s1) gen)
    | _ => .badFrame
  | 0x0F => match pl with
    | [s0, s1, gen, result] =>
      .request (if result = 0 then .batchResultDone v (join16 s0 s1) gen
        else .batchResultFailed v (join16 s0 s1) gen result)
    | _ => .badFrame
  | 0x10 => readCounted 5 pl fun t => .invalidate v (readStale t)
  | 0x11 => match pl with
    | [scope, policy, filter, count] => .request (.nominate v scope policy filter count)
    | _ => .badFrame
  | 0x12 => readSegmentName pl (.returnSegment v)
  | 0x13 => readSegmentName pl (.releaseSegment v)
  | 0x14 => readSegmentName pl (.retireSegment v)
  | 0x15 => match pl with
    | [d, s0, s1, p0, p1, u] => .request (.setGeometry v d (join16 s0 s1) (join16 p0 p1) u)
    | _ => .badFrame
  | 0x16 => readEmpty pl (.lockGeometry v)
  | 0x17 => match pl with
    | [sel, v0, v1] => .request (.setLimits v sel (join16 v0 v1))
    | _ => .badFrame
  | 0x18 => if pl.length = Config.dies then .request (.setDieMap v pl) else .badFrame
  | 0x19 => readCounted 12 pl fun t => .loadSegment v (readLoads t)
  | 0x1A => readEmpty pl (.start v)
  | 0x1B => readEmpty pl (.restart v)
  | 0x1C => readHalf pl (.queryStream v)
  | 0x1D => readHalf pl (.queryFunction v)
  | 0x1E => readSegmentName pl (.querySegment v)
  | 0x1F => match pl with
    | [die] => .request (.queryDie v die)
    | _ => .badFrame
  | 0x20 => readEmpty pl (.queryDevice v)
  | 0x21 => match pl with
    | [count] => .request (.collect v count)
    | _ => .badFrame
  | 0x22 => match pl with
    | [mode] => .request (.setNotice v mode)
    | _ => .badFrame
  | _ => .unknownKind

/-- R165 checks 2 and 3 on what follows a whole header: the declared length, then the CRC.
`body` is everything after the header, the CRC byte included when the mark is set. -/
def bodyChecks (crc : Bool) (declared : Nat) (header body : List Byte) : Bool :=
  declared ≤ Config.maxPayload && body.length = declared + (if crc then 1 else 0) &&
    (!crc || crc8 (header ++ body.take declared) = body.getD declared 0)

/-- R165 checks 1 to 5 on the bytes of a frame received on a port. -/
def readFrame (p : Port) (frame : List Byte) : Reading :=
  match frame with
  | kind :: flags :: l0 :: l1 :: body =>
    let crc := flags.getLsbD 0
    let declared := (join16 l0 l1).toNat
    if bodyChecks crc declared [kind, flags, l0, l1] body then readPayload ⟨p, crc⟩ kind (body.take declared)
    else .badFrame
  | _ => .badFrame

/-- The kind a response to a refused frame carries, and its CRC mark: those of the header when it was received
whole, kind 0 and no mark when it was not (R165, R168, R185). -/
def headerOf (frame : List Byte) : Byte × Bool :=
  match frame with
  | kind :: flags :: _ :: _ :: _ => (kind, flags.getLsbD 0)
  | _ => (0, false)

/-- R185: the 5-byte response header, then the payload, then the CRC byte. -/
def responseFrame (kind : Byte) (crc : Bool) (code : Byte) (payload : List Byte) : List Byte :=
  withCrc crc ([kind, flagsByte crc, code] ++ bytes16 (BitVec.ofNat 16 payload.length) ++ payload)

/-- The command a word of the opcode table spells: the table of this hardware gives no row bits. -/
def decodeTableWord (_nbits _w : Nat) : Option Instr := none

end Sys2Proof
end

