-- ==== Sys2Proof/Machine/State.lean ====
section
/-! DEFINITION. What the GK2140 holds, as plain data, and the state after power-on reset.
Counts that the spec calls counts are Nat; fields it reads as words, with a width and wrapping, are bit vectors.
A table lists only the entries that differ from the power-on entry, by rising index. -/

namespace Sys2Proof.Machine

/-- A table of numbered entries: those that differ from the power-on entry, by strictly rising index. -/
abbrev Table (α : Type) := List (Nat × α)

/-! ### Names -/

/-- Device states (Table 10-1). -/
inductive DeviceState where
  | config | run | drain | drained
  deriving DecidableEq, Repr

/-- The two mapping cores (Table 0-1). -/
inductive Core where
  | core0 | core1
  deriving DecidableEq, Repr

/-- The state of a mapping core (R99). -/
inductive CoreState where
  | active | failed
  deriving DecidableEq, Repr

/-- Stream states (Table 1-2). -/
inductive StreamState where
  | free | idle | active | waitSupply | draining | halted
  deriving DecidableEq, Repr

/-- The class of a stream, record or batch (Table 1-1). -/
inductive StreamClass where
  | tenant | reclaim
  deriving DecidableEq, Repr

/-- Intake modes (R15). -/
inductive Intake where
  | accept | hold
  deriving DecidableEq, Repr

/-- Seal states (Table 3-2). -/
inductive Seal where
  | disarmed
  | armed (deadline : Word)
  | pending
  deriving DecidableEq, Repr

/-- Function states (Table 1-3). -/
inductive FunctionState where
  | disabled | enabled | fenced
  deriving DecidableEq, Repr

/-- A wait state (R34). -/
inductive Wait where
  | none
  | budget (size : Nat)
  | records (size : Nat)
  deriving DecidableEq, Repr

/-- A flush state (R149, R150): `complete` is pending, marked complete while FLUSH DONE waits for event space. -/
inductive Flush where
  | none
  | pending (serial tag : Word)
  | complete (serial tag : Word)
  deriving DecidableEq, Repr

/-- Fence modes (R152). -/
inductive FenceMode where
  | discard | drain
  deriving DecidableEq, Repr

/-- Segment states (Table 4-2). OPEN is `opened`, since `open` is a word of Lean. -/
inductive SegmentState where
  | untracked | free | opened | filled | closed | victim | retired
  deriving DecidableEq, Repr

/-- The class of a segment (Table 4-1). -/
inductive SegmentClass where
  | tenant | reclaim | unknown
  deriving DecidableEq, Repr

/-- The status a retired record is reported with (R54). -/
inductive RetireStatus where
  | durable | discarded
  deriving DecidableEq, Repr

/-- Overdue modes (R122). -/
inductive OverdueMode where
  | report | takeover
  deriving DecidableEq, Repr

/-- NOTICE modes (R174). -/
inductive NoticeMode where
  | level | pulse
  deriving DecidableEq, Repr

/-- Outcome codes (Table 9-6). -/
inductive Code where
  | ok | admitted | accepted | holdBudget | holdRecords | holdStream | notRunning | power | range | state | unbound
  | fenced | halted | closing | disabled | locked | order | stale | validRemaining | coreFailed | full | notPermitted
  | frame | unknown
  deriving DecidableEq, Repr

/-! ### Device Control (Chapter 10) -/

/-- D, S, P and U (R178). -/
structure Geometry where
  dies    : Nat
  blocks  : Nat
  units   : Nat
  sectors : Nat
  deriving DecidableEq, Repr

/-- The limits of Table 10-2, in the table's order. -/
structure Limits where
  holdUp          : Nat          -- H
  reclaimHeld     : Nat          -- Hr
  reclaimRecords  : Nat          -- Lr
  dieInFlight     : Nat
  reclaimTimeout  : Nat
  highWater       : Nat          -- HW
  batchDeadline   : Nat
  overdue         : OverdueMode
  failureLimit    : Nat
  lowWater        : Nat
  deriving DecidableEq, Repr

/-- Device Control (R176, R177): `geometry` is none while it is invalid. -/
structure Control where
  device    : DeviceState
  geometry  : Option Geometry
  locked    : Bool
  limits    : Limits
  tick      : Word
  powerFail : Bool
  deriving DecidableEq, Repr

/-! ### Streams and functions (Chapter 1) -/

/-- A segment address (die, block). -/
structure Seg where
  die   : Nat
  block : Nat
  deriving DecidableEq, Repr

/-- A stream context (Table 1-1). The chain holds record numbers, head first. -/
structure Stream where
  state       : StreamState
  cls         : StreamClass
  owner       : Nat
  intake      : Intake
  mask        : DieMask
  depth       : Nat
  requester   : Option Port
  writePoint  : Option Seg
  finishing   : Option Seg
  inFlight    : Nat
  sealing     : Seal
  failures    : Nat
  padTotal    : Nat
  batchesDone : Word
  boundHints  : Nat
  chain       : List Nat
  deriving DecidableEq, Repr

/-- A FREE context (R1), with the class and owner it keeps until it is opened again. -/
def Stream.freeOf (cls : StreamClass) (owner : Nat) : Stream :=
  { state := .free, cls := cls, owner := owner, intake := .accept, mask := 0, depth := 2, requester := none,
    writePoint := none, finishing := none, inFlight := 0, sealing := .disarmed, failures := 0, padTotal := 0,
    batchesDone := 0, boundHints := 0, chain := [] }

/-- A context after power-on reset or RESTART (R1). Its class and owner have no meaning. -/
def Stream.powerOn : Stream := Stream.freeOf .tenant 0

/-- A function record (Table 1-3). -/
structure Function where
  state       : FunctionState
  reserve     : Nat
  cap         : Nat
  timeout     : Nat
  held        : Nat
  serial      : Word
  outstanding : Nat
  openStreams : Nat
  wait        : Wait
  flush       : Flush
  fence       : Option (FenceMode × Port)
  violations  : Nat
  deriving DecidableEq, Repr

/-- A function record after power-on reset (R4). -/
def Function.powerOn : Function :=
  { state := .disabled, reserve := 0, cap := 0, timeout := 20, held := 0, serial := 0, outstanding := 0,
    openStreams := 0, wait := .none, flush := .none, fence := none, violations := 0 }

/-- The Admission Unit's counters (Table 2-1). -/
structure Budget where
  total       : Nat      -- T
  unused      : Nat      -- Ru
  reclaimHeld : Nat
  reclaimWait : Wait
  deriving DecidableEq, Repr

/-! ### Fragment records (Chapter 3) -/

/-- Where a record is (Table 3-1). The retire status is present exactly while it is PENDING-REPORT. -/
inductive Condition where
  | free
  | chained
  | pendingReport (status : RetireStatus)
  deriving DecidableEq, Repr

/-- The class of a record, with the function and admission serial a TENANT record has (Table 3-1). -/
inductive Origin where
  | tenant (fn : Nat) (serial : Word)
  | reclaim
  deriving DecidableEq, Repr

/-- A fragment record (Table 3-1). -/
structure Fragment where
  condition : Condition
  stream    : Nat
  origin    : Origin
  tag       : Word
  lba       : Lba
  region    : Byte
  offset    : Word
  sectors   : Nat
  placed    : Nat
  durable   : Nat
  mark      : Option Nat
  admitted  : Word
  deriving DecidableEq, Repr

/-- A FREE record (R48). Its other fields have no meaning. -/
def Fragment.powerOn : Fragment :=
  { condition := .free, stream := 0, origin := .reclaim, tag := 0, lba := 0, region := 0, offset := 0, sectors := 0,
    placed := 0, durable := 0, mark := none, admitted := 0 }

/-- A completion waiting for event space (R171): a PENDING-REPORT record, or a completed flush. -/
inductive Completion where
  | fragment (record : Nat)
  | flush (fn : Nat)
  deriving DecidableEq, Repr

/-! ### Segments and dies (Chapter 4) -/

/-- A Segment Table entry (Table 4-1). -/
structure Segment where
  state     : SegmentState
  owner     : Option Nat
  cls       : SegmentClass
  nextUnit  : Nat
  doneUnits : Nat
  written   : Nat
  valid     : Nat
  closeSeq  : Word
  short     : Bool
  failed    : Bool       -- the F flag
  suspect   : Bool       -- the N flag
  deriving DecidableEq, Repr

/-- The default values of a segment entry (R70). -/
def Segment.powerOn : Segment :=
  { state := .untracked, owner := none, cls := .unknown, nextUnit := 0, doneUnits := 0, written := 0, valid := 0,
    closeSeq := 0, short := false, failed := false, suspect := false }

/-- A die record (Table 4-3). The free queue holds block numbers of the die, head first. -/
structure Die where
  configured : Option Core
  assigned   : Option Core
  freeQueue  : List Nat
  inFlight   : Nat
  openPoints : Nat
  supplyLow  : Bool
  slotWait   : List Nat
  deriving DecidableEq, Repr

/-- A die record after power-on reset (R72). -/
def Die.powerOn : Die :=
  { configured := none, assigned := none, freeQueue := [], inFlight := 0, openPoints := 0, supplyLow := false,
    slotWait := [] }

/-! ### Batches (Chapter 5) -/

/-- One extent of a batch (R60, R61, Table 11-5). The function is absent for a RECLAIM record. -/
structure Extent where
  record  : Nat
  lba     : Lba
  region  : Byte
  offset  : Word
  sectors : Nat
  fn      : Option Nat
  deriving DecidableEq, Repr

/-- QUEUED or TAKEN; the deadline is present exactly while the batch is TAKEN (Table 5-1). -/
inductive Phase where
  | queued
  | taken (deadline : Word)
  deriving DecidableEq, Repr

/-- The queue a batch waits in, or the core that took it (Table 5-1). -/
inductive Place where
  | core (k : Core)
  | parked
  deriving DecidableEq, Repr

/-- A batch record (Table 5-1). -/
structure Batch where
  phase   : Phase
  place   : Place
  stream  : Nat
  cls     : StreamClass
  seg     : Seg
  unit    : Nat
  real    : Nat
  pad     : Nat
  extents : List Extent
  overdue : Bool
  deriving DecidableEq, Repr

/-- A Batch Table slot: its generation is kept while it is free (Table 5-1, R95). -/
structure Slot where
  gen   : Byte
  batch : Option Batch
  deriving DecidableEq, Repr

/-- A slot after power-on reset (R95). -/
def Slot.powerOn : Slot := { gen := 0, batch := none }

/-- The two dispatch queues and the parked queue, as slots, head first (R98). -/
structure Queues where
  core0  : List Nat
  core1  : List Nat
  parked : List Nat
  deriving DecidableEq, Repr

/-- The states of the two mapping cores (R99). -/
structure Cores where
  core0 : CoreState
  core1 : CoreState
  deriving DecidableEq, Repr

/-! ### Ports and events (Chapter 9) -/

/-- An event record (Table 11-6). -/
inductive Event where
  | fragmentDone (tag : Word) (stream : Nat) (status : RetireStatus)
  | flushDone (fn : Nat) (tag : Word)
  | admissionOpen (fn : Option Nat)
  | streamHalted (stream : Nat) (owner : Option Nat)
  | streamClosed (stream : Nat)
  | supplyLow (die free : Nat)
  | segmentClosed (g : Seg) (owner : Option Nat) (short failed : Bool)
  | segmentReleased (g : Seg)
  | batchOverdue (slot : Nat) (gen : Byte) (core : Core)
  | coreTakeover (failed : Core) (survivor : Option Core) (dies streams : Nat)
  | fenceComplete (fn violations : Nat)
  | drainComplete (records : Nat)
  deriving DecidableEq, Repr

/-- What the last link operation of a port gave its master: the model's own field, which no rule reads. -/
inductive Link where
  | quiet
  | taken
  | busy
  | read (bytes : List Byte)
  deriving DecidableEq, Repr

/-- A port's state (Table 9-1). Buffers hold whole frames, oldest first. `pulse` is set while a NOTICE pulse runs. -/
structure PortState where
  requests  : List (List Byte)
  responses : List (List Byte)
  events    : List Event
  lost      : Bool
  mode      : NoticeMode
  pulse     : Bool
  link      : Link
  deriving DecidableEq, Repr

/-- A port after power-on reset (R163, R173). -/
def PortState.powerOn : PortState :=
  { requests := [], responses := [], events := [], lost := false, mode := .level, pulse := false, link := .quiet }

/-- The four ports. -/
structure Ports where
  fp  : PortState
  mp0 : PortState
  mp1 : PortState
  rp  : PortState
  deriving DecidableEq, Repr

/-! ### The machine -/

/-- Everything the spec gives the GK2140, and the queue of the commands that are waiting. -/
structure State where
  control       : Control
  functions     : Table Function
  bindings      : Table (Option Nat)
  streams       : Table Stream
  openReclaim   : Nat
  waitSupply    : List Nat
  budget        : Budget
  records       : Table Fragment
  tenantInUse   : Nat
  reclaimInUse  : Nat
  reports       : List Completion
  segments      : Table Segment
  dies          : Table Die
  rotation      : Nat
  closeSeq      : Word
  slots         : Table Slot
  queues        : Queues
  cores         : Cores
  ports         : Ports
  pending       : List Instr
  deriving DecidableEq, Repr

/-- The spec gives the GK2140 no fault: every command completes, so there is no reason to stop for. -/
inductive Fault where
  deriving DecidableEq, Repr

/-- Why a command would have no meaning. -/
inductive Refusal where
  /-- Raised by `exec` alone, for a command that has no meaning yet. Safe: nothing is claimed of it. -/
  | notModelled (mnemonic : String)
  deriving DecidableEq, Repr

/-- The limits at power-on (Table 10-2). -/
def Limits.powerOn : Limits :=
  { holdUp := 16384, reclaimHeld := 4096, reclaimRecords := 1024, dieInFlight := 4, reclaimTimeout := 100,
    highWater := 14336, batchDeadline := 200, overdue := .report, failureLimit := 3, lowWater := 4 }

/-- Device Control at power-on (R176, R177). The POWER-FAIL input stands deasserted (log entry 6). -/
def Control.powerOn : Control :=
  { device := .config, geometry := none, locked := false, limits := .powerOn, tick := 0, powerFail := false }

/-- The machine right after power-on reset, with no command waiting. -/
def State.reset : State :=
  { control := .powerOn, functions := [], bindings := [], streams := [], openReclaim := 0, waitSupply := [],
    budget := { total := 0, unused := 0, reclaimHeld := 0, reclaimWait := .none },
    records := [], tenantInUse := 0, reclaimInUse := 0, reports := [], segments := [], dies := [], rotation := 0,
    closeSeq := 0, slots := [], queues := { core0 := [], core1 := [], parked := [] },
    cores := { core0 := .active, core1 := .active },
    ports := { fp := .powerOn, mp0 := .powerOn, mp1 := .powerOn, rp := .powerOn }, pending := [] }

end Sys2Proof.Machine
end

