-- ==== Sys2Proof/Machine/Ops.lean ====
section
/-! DEFINITION. The named operations over tables and fields: reading and writing one entry, and queuing an event. -/

namespace Sys2Proof.Machine

/-! ### Tables -/

/-- The entry at an index: the listed one, or the power-on entry `d`. -/
def Table.read {α : Type} (d : α) : Table α → Nat → α
  | [], _ => d
  | (j, w) :: t, i => if i < j then d else if i = j then w else Table.read d t i

/-- Write one entry, keeping the canonical form: indices strictly rising, no entry equal to `d`. -/
def Table.write {α : Type} [DecidableEq α] (d : α) : Table α → Nat → α → Table α
  | [], i, v => if v = d then [] else [(i, v)]
  | (j, w) :: t, i, v =>
    if i < j then (if v = d then (j, w) :: t else (i, v) :: (j, w) :: t)
    else if i = j then (if v = d then t.dropWhile (fun c => c.1 ≤ i) else (i, v) :: t)
    else (j, w) :: Table.write d t i v

/-- The canonical form, from a lower bound on the indices. -/
def Table.canonicalFrom {α : Type} [DecidableEq α] (d : α) : Nat → Table α → Bool
  | _, [] => true
  | low, (j, w) :: t => low ≤ j && w ≠ d && Table.canonicalFrom d (j + 1) t

/-- The canonical form of a table. -/
def Table.canonical {α : Type} [DecidableEq α] (d : α) (t : Table α) : Bool := Table.canonicalFrom d 0 t

/-- The listed indices, rising. -/
def Table.indices {α : Type} (t : Table α) : List Nat := t.map Prod.fst

/-- Change every entry by `f`, which must keep `d`: an entry that becomes `d` is no longer listed. -/
def Table.mapEntries {α : Type} [DecidableEq α] (d : α) (f : α → α) (t : Table α) : Table α :=
  (t.map fun c => (c.1, f c.2)).filter fun c => c.2 ≠ d

/-- The lowest index from `i` on, among `n` of them, that satisfies `p`. -/
def lowestFrom (p : Nat → Bool) : Nat → Nat → Option Nat
  | 0, _ => none
  | n + 1, i => if p i then some i else lowestFrom p n (i + 1)

/-! ### Reading the state -/

/-- D, S, P and U. While the geometry is invalid they read 0 (log entry 35). -/
def State.geo (s : State) : Geometry := s.control.geometry.getD ⟨0, 0, 0, 0⟩

/-- The limits of Table 10-2. -/
abbrev State.limits (s : State) : Limits := s.control.limits

/-- The ms tick. -/
abbrev State.tick (s : State) : Word := s.control.tick

/-- The device state. -/
abbrev State.device (s : State) : DeviceState := s.control.device

/-- A stream context. -/
def State.stream (s : State) (i : Nat) : Stream := Table.read .powerOn s.streams i

/-- A function record. -/
def State.function (s : State) (f : Nat) : Function := Table.read .powerOn s.functions f

/-- A fragment record. -/
def State.record (s : State) (r : Nat) : Fragment := Table.read .powerOn s.records r

/-- A die record. -/
def State.die (s : State) (d : Nat) : Die := Table.read .powerOn s.dies d

/-- A Batch Table slot. -/
def State.slot (s : State) (k : Nat) : Slot := Table.read .powerOn s.slots k

/-- The entry of (function f, hint k) is entry f × 8 + k (section 1.3). -/
def bindingIndex (f k : Nat) : Nat := f * 8 + k

/-- A Binding Table entry. -/
def State.binding (s : State) (f k : Nat) : Option Nat := Table.read none s.bindings (bindingIndex f k)

/-- The entry of segment (die, block) is entry die × S + block (section 4.1). -/
def State.segIndex (s : State) (g : Seg) : Nat := g.die * s.geo.blocks + g.block

/-- The segment of a Segment Table index (section 4.1). -/
def State.segOfIndex (s : State) (k : Nat) : Seg := ⟨k / s.geo.blocks, k % s.geo.blocks⟩

/-- A Segment Table entry. -/
def State.segment (s : State) (g : Seg) : Segment := Table.read .powerOn s.segments (s.segIndex g)

/-- One port of the four. -/
def Ports.at (ps : Ports) : Port → PortState
  | .fp => ps.fp
  | .mp0 => ps.mp0
  | .mp1 => ps.mp1
  | .rp => ps.rp

/-- A port's state. -/
def State.port (s : State) (p : Port) : PortState := s.ports.at p

/-- The state of one mapping core. -/
def State.core (s : State) : Core → CoreState
  | .core0 => s.cores.core0
  | .core1 => s.cores.core1

/-! ### Writing the state -/

/-- Write a stream context. -/
def State.setStream (s : State) (i : Nat) (v : Stream) : State := { s with streams := Table.write .powerOn s.streams i v }

/-- Write a function record. -/
def State.setFunction (s : State) (f : Nat) (v : Function) : State :=
  { s with functions := Table.write .powerOn s.functions f v }

/-- Write a fragment record. -/
def State.setRecord (s : State) (r : Nat) (v : Fragment) : State := { s with records := Table.write .powerOn s.records r v }

/-- Write a die record. -/
def State.setDie (s : State) (d : Nat) (v : Die) : State := { s with dies := Table.write .powerOn s.dies d v }

/-- Write a Batch Table slot. -/
def State.setSlot (s : State) (k : Nat) (v : Slot) : State := { s with slots := Table.write .powerOn s.slots k v }

/-- Write a Binding Table entry. -/
def State.setBinding (s : State) (f k : Nat) (v : Option Nat) : State :=
  { s with bindings := Table.write none s.bindings (bindingIndex f k) v }

/-- Write a Segment Table entry. -/
def State.setSegment (s : State) (g : Seg) (v : Segment) : State :=
  { s with segments := Table.write .powerOn s.segments (s.segIndex g) v }

/-- Replace one port of the four. -/
def Ports.put (ps : Ports) (p : Port) (v : PortState) : Ports :=
  match p with
  | .fp => { ps with fp := v }
  | .mp0 => { ps with mp0 := v }
  | .mp1 => { ps with mp1 := v }
  | .rp => { ps with rp := v }

/-- Write a port's state. -/
def State.setPort (s : State) (p : Port) (v : PortState) : State := { s with ports := s.ports.put p v }

/-- Write Device Control. -/
def State.setControl (s : State) (v : Control) : State := { s with control := v }

/-- Write the Admission Unit's counters. -/
def State.setBudget (s : State) (v : Budget) : State := { s with budget := v }

/-! ### Events (section 9.5) -/

/-- The capacity of a port's event queue (R170). -/
def eventCapacity : Port → Nat
  | .fp => 1024
  | .mp0 => 256
  | .mp1 => 256
  | .rp => 256

/-- Is there a free entry in the port's event queue? -/
def State.hasRoom (s : State) (p : Port) : Bool := (s.port p).events.length < eventCapacity p

/-- An event enters a queue at the tail (R170). -/
def State.pushEvent (s : State) (p : Port) (e : Event) : State :=
  s.setPort p { s.port p with events := (s.port p).events ++ [e] }

/-- R170: a status event enters its queue, or is lost to a full one and sets the events-lost flag. -/
def State.emit (s : State) (p : Port) (e : Event) : State :=
  if s.hasRoom p then s.pushEvent p e else s.setPort p { s.port p with lost := true }

/-- The port of a mapping core (Table 0-1). -/
def Core.port : Core → Port
  | .core0 => .mp0
  | .core1 => .mp1

/-- The other mapping core. -/
def Core.other : Core → Core
  | .core0 => .core1
  | .core1 => .core0

/-- The core whose port this is (Table 0-1). -/
def portCore : Port → Option Core
  | .mp0 => some .core0
  | .mp1 => some .core1
  | .fp => none
  | .rp => none

/-- A status event for the core a die is assigned to; queued nowhere when the die has no core. -/
def State.emitToDie (s : State) (d : Nat) (e : Event) : State :=
  match (s.die d).assigned with
  | some c => s.emit c.port e
  | none => s

/-- A status event for both mapping ports. -/
def State.emitToCores (s : State) (e : Event) : State := (s.emit .mp0 e).emit .mp1 e

/-! ### Batch queues (R98) -/

/-- The queue of a place. -/
def Queues.at (q : Queues) : Place → List Nat
  | .core .core0 => q.core0
  | .core .core1 => q.core1
  | .parked => q.parked

/-- Replace the queue of a place. -/
def Queues.put (q : Queues) (pl : Place) (l : List Nat) : Queues :=
  match pl with
  | .core .core0 => { q with core0 := l }
  | .core .core1 => { q with core1 := l }
  | .parked => { q with parked := l }

/-- A slot joins the tail of a place's queue. -/
def State.enqueue (s : State) (pl : Place) (k : Nat) : State :=
  { s with queues := s.queues.put pl (s.queues.at pl ++ [k]) }

/-- R97: freeing removes the batch from any queue it is in, makes the slot free, and raises its generation by 1. -/
def State.freeSlot (s : State) (k : Nat) : State :=
  let q := s.queues
  { s with queues := { core0 := q.core0.filter (· ≠ k), core1 := q.core1.filter (· ≠ k),
                       parked := q.parked.filter (· ≠ k) } }.setSlot k { gen := (s.slot k).gen + 1, batch := none }

end Sys2Proof.Machine
end

