-- ==== Sys2Proof/Machine/Operands.lean ====
section
/-! DEFINITION. The operand forms: enumerated request fields (Table 11-1) and their range tests, and the fields of
responses and event records (Tables 11-1, 11-2, 11-6, 11-8). -/

namespace Sys2Proof.Machine

/-! ### Enumerated fields of requests (Table 11-1). none is a value that is not in the field's list. -/

/-- Stream mode. -/
def intakeOf (b : Byte) : Option Intake :=
  if b = 0 then some .accept else if b = 1 then some .hold else none

/-- Fence mode. -/
def fenceModeOf (b : Byte) : Option FenceMode :=
  if b = 0 then some .discard else if b = 1 then some .drain else none

/-- Enable choice: true enables. -/
def enableOf (b : Byte) : Option Bool :=
  if b = 0 then some false else if b = 1 then some true else none

/-- NOTICE mode. -/
def noticeModeOf (b : Byte) : Option NoticeMode :=
  if b = 0 then some .level else if b = 1 then some .pulse else none

/-- Nomination policies (R137). -/
inductive Policy where
  | greedy | aged
  deriving DecidableEq, Repr

/-- Policy. -/
def policyOf (b : Byte) : Option Policy :=
  if b = 0 then some .greedy else if b = 1 then some .aged else none

/-- Segment class. -/
def segmentClassOf (b : Byte) : Option SegmentClass :=
  if b = 0 then some .tenant else if b = 1 then some .reclaim else if b = 2 then some .unknown else none

/-- A class filter: a class, or any (inner none). -/
def classFilterOf (b : Byte) : Option (Option SegmentClass) :=
  if b = 3 then some none else (segmentClassOf b).map some

/-- A core byte of SET DIE MAP: 0, 1, or FFh for none. The outer none is any other value (R186). -/
def dieCoreOf (b : Byte) : Option (Option Core) :=
  if b = 0 then some (some .core0) else if b = 1 then some (some .core1) else if b = 0xFF then some none else none

/-- The limits of Table 10-2 by SET LIMITS selector (R186). -/
inductive LimitName where
  | holdUp | reclaimHeld | reclaimRecords | dieInFlight | reclaimTimeout | highWater | batchDeadline | overdue
  | failureLimit | lowWater
  deriving DecidableEq, Repr

/-- A SET LIMITS selector. -/
def limitOf (b : Byte) : Option LimitName :=
  match b.toNat with
  | 0 => some .holdUp
  | 1 => some .reclaimHeld
  | 2 => some .reclaimRecords
  | 3 => some .dieInFlight
  | 4 => some .reclaimTimeout
  | 5 => some .highWater
  | 6 => some .batchDeadline
  | 7 => some .overdue
  | 8 => some .failureLimit
  | 9 => some .lowWater
  | _ => none

/-- The range of a limit, lowest and highest value (Table 10-2). -/
def LimitName.range : LimitName → Nat × Nat
  | .holdUp => (256, 65535)
  | .reclaimHeld => (0, 65535)
  | .reclaimRecords => (0, 2048)
  | .dieInFlight => (1, 8)
  | .reclaimTimeout => (0, 2000)
  | .highWater => (0, 65535)
  | .batchDeadline => (10, 2000)
  | .overdue => (0, 1)
  | .failureLimit => (1, 7)
  | .lowWater => (0, 31)

/-- Is the limit marked CONFIG in Table 10-2? -/
def LimitName.configOnly : LimitName → Bool
  | .holdUp | .reclaimHeld | .reclaimRecords | .dieInFlight | .reclaimTimeout => true
  | .highWater | .batchDeadline | .overdue | .failureLimit | .lowWater => false

/-- The segment a request names. -/
def segOf (g : SegmentName) : Seg := ⟨g.die.toNat, g.block.toNat⟩

/-- Does the geometry have the segment: die below D, block below S? -/
def State.hasSegment (s : State) (g : Seg) : Bool := g.die < s.geo.dies && g.block < s.geo.blocks

/-- R27: the fields of a SUBMIT that step 2 refuses RANGE. -/
def submitOutOfRange (p : Port) (hint : Byte) (stream : Half) (lba : Lba) (region : Byte) (offset : Word) (n : Byte) : Bool :=
  n.toNat = 0 || 64 < n.toNat || offset.toNat % 4096 ≠ 0 ||
    2 ^ 40 < region.toNat * 2 ^ 32 + offset.toNat + n.toNat * 4096 || 2 ^ 48 < lba.toNat + n.toNat ||
    (p = .fp && 7 < hint.toNat) || (p = .rp && 1023 < stream.toNat)

/-! ### Fields of responses -/

/-- A 1-byte number. -/
def one (n : Nat) : List Byte := [BitVec.ofNat 8 n]

/-- A 2-byte number. -/
def two (n : Nat) : List Byte := bytes16 (BitVec.ofNat 16 n)

/-- A 4-byte number. -/
def four (n : Nat) : List Byte := bytes32 (BitVec.ofNat 32 n)

/-- A field shown as absent carries all ones at its width (R185). -/
def absent (width : Nat) : List Byte := List.replicate width 0xFF

/-- A field that may be shown as absent. -/
def orAbsent {α : Type} (width : Nat) (f : α → List Byte) : Option α → List Byte
  | some x => f x
  | none => absent width

/-- Yes or no, set or clear, valid, locked, complete (Table 11-8). -/
def yes (b : Bool) : List Byte := if b then [1] else [0]

/-- A set of flags: 1 byte, bits 0 upward in the order listed (R185). -/
def flagSet (bs : List Bool) : List Byte :=
  [(bs.zipIdx.map fun c => if c.1 then (1#8) <<< c.2 else 0#8).foldl (· ||| ·) 0]

/-- A list in a response: a 1-byte count, then its items (R185). -/
def listOf {α : Type} (item : α → List Byte) (xs : List α) : List Byte := one xs.length ++ xs.flatMap item

/-- The number of a core (Table 11-1). -/
def Core.number : Core → Nat
  | .core0 => 0
  | .core1 => 1

/-- A core, or none. -/
def coreField (c : Option Core) : List Byte := orAbsent 1 (fun k => one k.number) c

/-- A port (Table 11-8). -/
def portNumber : Port → Nat
  | .fp => 0
  | .mp0 => 1
  | .mp1 => 2
  | .rp => 3

/-- A port, or absent. -/
def portField (p : Option Port) : List Byte := orAbsent 1 (fun q => one (portNumber q)) p

/-- A segment: die (1), then block (2). -/
def segField (g : Seg) : List Byte := one g.die ++ two g.block

/-- A ticket: slot (2), then generation (1). -/
def ticketField (slot : Nat) (gen : Byte) : List Byte := two slot ++ [gen]

/-- The class of a stream or batch. -/
def StreamClass.number : StreamClass → Nat
  | .tenant => 0
  | .reclaim => 1

/-- The class of a segment. -/
def SegmentClass.number : SegmentClass → Nat
  | .tenant => 0
  | .reclaim => 1
  | .unknown => 2

/-- The class a stream's write points take (R80). -/
def StreamClass.segment : StreamClass → SegmentClass
  | .tenant => .tenant
  | .reclaim => .reclaim

/-- Stream state. -/
def StreamState.number : StreamState → Nat
  | .free => 0
  | .idle => 1
  | .active => 2
  | .waitSupply => 3
  | .draining => 4
  | .halted => 5

/-- Function state. -/
def FunctionState.number : FunctionState → Nat
  | .disabled => 0
  | .enabled => 1
  | .fenced => 2

/-- Segment state. -/
def SegmentState.number : SegmentState → Nat
  | .untracked => 0
  | .free => 1
  | .opened => 2
  | .filled => 3
  | .closed => 4
  | .victim => 5
  | .retired => 6

/-- Device state. -/
def DeviceState.number : DeviceState → Nat
  | .config => 0
  | .run => 1
  | .drain => 2
  | .drained => 3

/-- Mapping core state. -/
def CoreState.number : CoreState → Nat
  | .active => 0
  | .failed => 1

/-- Intake mode. -/
def Intake.number : Intake → Nat
  | .accept => 0
  | .hold => 1

/-- Seal state, followed by the deadline, 0 unless ARMED. -/
def sealField : Seal → List Byte
  | .disarmed => one 0 ++ four 0
  | .armed t => one 1 ++ bytes32 t
  | .pending => one 2 ++ four 0

/-- Wait state: kind, then size. The size of no wait is absent (log entry 10). -/
def waitField : Wait → List Byte
  | .none => one 0 ++ absent 1
  | .budget n => one 1 ++ one n
  | .records n => one 2 ++ one n

/-- Flush state: condition, serial, tag. The serial and tag of no flush are absent (log entry 10). -/
def flushField : Flush → List Byte
  | .none => one 0 ++ absent 8
  | .pending a t => one 1 ++ bytes32 a ++ bytes32 t
  | .complete a t => one 2 ++ bytes32 a ++ bytes32 t

/-- Fence mode. -/
def FenceMode.number : FenceMode → Nat
  | .discard => 0
  | .drain => 1

/-- Fence state: mode, FFh for none, then the requesting port. -/
def fenceField : Option (FenceMode × Port) → List Byte
  | none => absent 2
  | some (m, p) => one m.number ++ one (portNumber p)

/-- Overdue mode. -/
def OverdueMode.number : OverdueMode → Nat
  | .report => 0
  | .takeover => 1

/-- Geometry: D (1), S (2), P (2), U (1), as SET GEOMETRY. -/
def geometryField (g : Option Geometry) : List Byte :=
  orAbsent 6 (fun x => one x.dies ++ two x.blocks ++ two x.units ++ one x.sectors) g

/-- Outcome codes (Table 11-2). -/
def Code.byte : Code → Byte
  | .ok => 0x00
  | .admitted => 0x01
  | .accepted => 0x02
  | .holdBudget => 0x03
  | .holdRecords => 0x04
  | .holdStream => 0x05
  | .notRunning => 0x06
  | .power => 0x07
  | .range => 0x08
  | .state => 0x09
  | .unbound => 0x0A
  | .fenced => 0x0B
  | .halted => 0x0C
  | .closing => 0x0D
  | .disabled => 0x0E
  | .locked => 0x0F
  | .order => 0x10
  | .stale => 0x11
  | .validRemaining => 0x13
  | .coreFailed => 0x14
  | .full => 0x15
  | .notPermitted => 0x16
  | .frame => 0x17
  | .unknown => 0x18

/-- Every limit of Table 10-2, in the table's order: 2 bytes each, but the overdue mode 1 (Table 11-8). -/
def limitsField (l : Limits) : List Byte :=
  two l.holdUp ++ two l.reclaimHeld ++ two l.reclaimRecords ++ two l.dieInFlight ++ two l.reclaimTimeout ++
    two l.highWater ++ two l.batchDeadline ++ one l.overdue.number ++ two l.failureLimit ++ two l.lowWater

/-- One extent of a batch record (Table 11-5). -/
def Extent.bytes (e : Extent) : List Byte :=
  two e.record ++ bytes48 e.lba ++ [e.region] ++ bytes32 e.offset ++ one e.sectors ++ orAbsent 2 two e.fn

/-- The batch record of R187: the 18-byte head of Table 11-4, then the extents in chain order. -/
def batchRecord (slot : Nat) (gen : Byte) (deadline : Word) (b : Batch) : List Byte :=
  two slot ++ [gen] ++ two b.stream ++ one b.cls.number ++ segField b.seg ++ two b.unit ++ one b.real ++ one b.pad ++
    bytes32 deadline ++ listOf Extent.bytes b.extents

/-- The bytes of an event's fields (Table 11-6), before the filling with 0 to 16 bytes. -/
def Event.fields : Event → List Byte
  | .fragmentDone tag i st => [0x01] ++ bytes32 tag ++ two i ++ one (if st = .durable then 0 else 1)
  | .flushDone f tag => [0x02] ++ two f ++ bytes32 tag
  | .admissionOpen f => [0x03] ++ orAbsent 2 two f
  | .streamHalted i f => [0x04] ++ two i ++ orAbsent 2 two f
  | .streamClosed i => [0x05] ++ two i
  | .supplyLow d n => [0x06] ++ one d ++ one n
  | .segmentClosed g o sh fl => [0x07] ++ segField g ++ orAbsent 2 two o ++ flagSet [sh, fl]
  | .segmentReleased g => [0x08] ++ segField g
  | .batchOverdue k gen c => [0x09] ++ two k ++ [gen] ++ one c.number
  | .coreTakeover k j d n => [0x0A] ++ one k.number ++ coreField j ++ one d ++ two n
  | .fenceComplete f n => [0x0B] ++ two f ++ two n
  | .drainComplete n => [0x0C] ++ two n

/-- R188: an event record is 16 bytes, every byte not named sent as 0. -/
def Event.bytes (e : Event) : List Byte := e.fields ++ List.replicate (16 - e.fields.length) 0

/-! ### Replies -/

/-- What the execution of a request leaves: an outcome code, the fields of the response, and the state. -/
structure Reply where
  code    : Code
  payload : List Byte
  next    : State
  deriving DecidableEq, Repr

/-- A refusal that changes nothing and carries no field (R175, R185). -/
def State.refuse (s : State) (c : Code) : Reply := ⟨c, [], s⟩

end Sys2Proof.Machine
end

