-- ==== Sys2Proof/Machine/Flags.lean ====
section
/-! DEFINITION. The conditions computed from words and counts: deadlines, serials, the extent of a record, the
NOTICE condition and line, and the flags and quantities of a nomination. -/

namespace Sys2Proof.Machine

/-! ### Time and serials -/

/-- R65: a deadline has passed when (ms tick − deadline) modulo 2^32 lies in 0 to 2^31 − 1. -/
def passed (tick deadline : Word) : Bool := (tick - deadline).toNat < 2 ^ 31

/-- Table 0-4: serial a is earlier than serial b when (b − a) modulo 2^32 lies in 1 to 2^31 − 1. -/
def earlier (a b : Word) : Bool := 1 ≤ (b - a).toNat && (b - a).toNat < 2 ^ 31

/-! ### Records and chains -/

/-- R46: the end of a record is its boundary when it carries a discard mark, and n when it does not. -/
def Fragment.stop (r : Fragment) : Nat := r.mark.getD r.sectors

/-- The uncut sectors of one record: end − placed (R50). -/
def Fragment.uncut (r : Fragment) : Nat := r.stop - r.placed

/-- R50: the uncut sectors of a stream, the sum over its CHAINED records of end − placed. -/
def State.uncut (s : State) (i : Nat) : Nat := ((s.stream i).chain.map fun r => (s.record r).uncut).sum

/-- R50: the record at the cut point, the first of the chain whose placed count is below its end; none at the end.
It is the stream's oldest uncut record (R65). -/
def State.cutRecord (s : State) (i : Nat) : Option Nat :=
  (s.stream i).chain.find? fun r => (s.record r).placed < (s.record r).stop

/-- R54: the status a record retires with. -/
def Fragment.retireStatus (r : Fragment) : RetireStatus := if r.mark.isSome then .discarded else .durable

/-- R84: a stream's supply wait is yes exactly when it is on the WAIT-SUPPLY list. -/
def State.supplyWait (s : State) (i : Nat) : Bool := s.waitSupply.contains i

/-! ### The NOTICE lines (R173) -/

/-- The notice condition of a port: its event queue holds an event, or its core's dispatch queue holds a batch. -/
def State.notice (s : State) (p : Port) : Bool :=
  !(s.port p).events.isEmpty ||
    match portCore p with
    | some c => !(s.queues.at (.core c)).isEmpty
    | none => false

/-- The NOTICE line of a port: the condition in LEVEL mode, the running pulse in PULSE mode. -/
def State.noticeLine (s : State) (p : Port) : Bool :=
  match (s.port p).mode with
  | .level => s.notice p
  | .pulse => (s.port p).pulse

/-- R173 at the end of a step that led from `s` to `t`: in PULSE mode a change of the condition from false to true
starts the pulse, if none is running. -/
def settlePort (s : State) (p : Port) (t : State) : State :=
  if (t.port p).mode = .pulse && !s.notice p && t.notice p then t.setPort p { t.port p with pulse := true } else t

/-- R173 for the four lines. -/
def settle (s t : State) : State := settlePort s .rp (settlePort s .mp1 (settlePort s .mp0 (settlePort s .fp t)))

/-! ### Nomination (Table 7-1) -/

/-- C, the segment capacity P × U. -/
def Geometry.capacity (g : Geometry) : Nat := g.units * g.sectors

/-- R136: utilization floor(v × 65,536 / C), clamped to 65,535. -/
def utilization (capacity valid : Nat) : Nat := min (valid * 65536 / capacity) 65535

/-- R136: the C flag is set when the utilization was clamped. -/
def clampedUse (capacity valid : Nat) : Bool := 65535 < valid * 65536 / capacity

/-- R135: the age of a segment in closes, before the clamp. -/
def segmentAge (counter closeSeq : Word) : Nat := (counter - closeSeq).toNat

/-- R135: the age used in the score. -/
def clampedAge (age : Nat) : Nat := min age 65535

/-- R137: the score under a policy. -/
def score (policy : Policy) (u a : Nat) : Nat :=
  match policy with
  | .greedy => 65535 - u
  | .aged => (65536 - u) * a / (65536 + u)

end Sys2Proof.Machine
end

