-- ==== Sys2Proof/Machine/Admission.lean ====
section
/-! DEFINITION. The Admission Unit's counters: headroom, releases and waits (sections 2.2 to 2.4). -/

namespace Sys2Proof.Machine

/-- max(0, r − h): a function's unused reserve. -/
def Function.spare (fn : Function) : Nat := fn.reserve - fn.held

/-- R25: a function's term of Ru, its unused reserve while it is ENABLED or FENCED. -/
def Function.term (fn : Function) : Nat := if fn.state = .disabled then 0 else fn.spare

/-- R32: the headroom of a function, which may be negative. -/
def State.headroom (s : State) (f : Nat) : Int :=
  let fn := s.function f
  min ((fn.cap : Int) - fn.held) ((s.limits.holdUp : Int) - s.budget.total - s.budget.unused + fn.spare)

/-- R40 for one function: a BUDGET wait whose size the headroom covers is opened. -/
def openBudgetWait (s : State) (f : Nat) : State :=
  match (s.function f).wait with
  | .budget n =>
    if (n : Int) ≤ s.headroom f then
      (s.emit .fp (.admissionOpen (some f))).setFunction f { s.function f with wait := .none }
    else s
  | .records _ => s
  | .none => s

/-- R40: every BUDGET wait is tested, in ascending function number. -/
def State.openBudgetWaits (s : State) : State := (Table.indices s.functions).foldl openBudgetWait s

/-- R38: k sectors of function f leave the budget, before the waits are tested. -/
def State.lowerHeld (s : State) (f k : Nat) : State :=
  let fn := s.function f
  let fn' := { fn with held := fn.held - k }
  (s.setFunction f fn').setBudget { s.budget with
    total := s.budget.total - k, unused := s.budget.unused + (fn'.term - fn.term) }

/-- R38, R40: a release of k sectors of function f. -/
def State.release (s : State) (f k : Nat) : State := (s.lowerHeld f k).openBudgetWaits

/-- R39: the reclaim wait, if its kind is BUDGET and the reclaim headroom covers its size, is opened. -/
def State.openReclaimBudgetWait (s : State) : State :=
  match s.budget.reclaimWait with
  | .budget n =>
    if s.budget.reclaimHeld + n ≤ s.limits.reclaimHeld then
      (s.emit .rp (.admissionOpen none)).setBudget { s.budget with reclaimWait := .none }
    else s
  | .records _ => s
  | .none => s

/-- R39: a release of k RECLAIM sectors. -/
def State.releaseReclaim (s : State) (k : Nat) : State :=
  (s.setBudget { s.budget with reclaimHeld := s.budget.reclaimHeld - k }).openReclaimBudgetWait

/-- A release of k sectors of a stream: for its owner function, or from reclaim held (R38, R39). -/
def State.releaseStream (s : State) (i k : Nat) : State :=
  match (s.stream i).cls with
  | .tenant => s.release (s.stream i).owner k
  | .reclaim => s.releaseReclaim k

/-- R41 for one function: a RECORDS wait is opened, whatever its size. -/
def openRecordsWait (s : State) (f : Nat) : State :=
  match (s.function f).wait with
  | .records _ => (s.emit .fp (.admissionOpen (some f))).setFunction f { s.function f with wait := .none }
  | .budget _ => s
  | .none => s

/-- R41: a freed TENANT record opens every RECORDS wait of a function, in ascending number. -/
def State.openTenantRecordsWaits (s : State) : State := (Table.indices s.functions).foldl openRecordsWait s

/-- R41: a freed RECLAIM record opens a RECORDS reclaim wait. -/
def State.openReclaimRecordsWait (s : State) : State :=
  match s.budget.reclaimWait with
  | .records _ => (s.emit .rp (.admissionOpen none)).setBudget { s.budget with reclaimWait := .none }
  | .budget _ => s
  | .none => s

/-- R42, R179: the sum of the reserves of the ENABLED and FENCED functions, leaving out function f if one is given. -/
def State.reserves (s : State) (but : Option Nat) : Nat :=
  ((s.functions.filter fun c => c.2.state ≠ .disabled ∧ some c.1 ≠ but).map fun c => c.2.reserve).sum

end Sys2Proof.Machine
end

