-- ==== Sys2Proof/Machine/Segments.lean ====
section
/-! DEFINITION. The Segment Manager: write point allocation and the closing step (sections 4.4 to 4.6). -/

namespace Sys2Proof.Machine

/-! ### Allocation (section 4.4) -/

/-- R78: a die is eligible for a mask when its bit is set, it is below D, it has an assigned core and a free segment. -/
def State.eligible (s : State) (mask : DieMask) (d : Nat) : Bool :=
  mask.getLsbD d && d < s.geo.dies && (s.die d).assigned.isSome && !(s.die d).freeQueue.isEmpty

/-- R79: the dies in cyclic order from the die after the rotation pointer, ending with the pointer's own die. -/
def State.dieOrder (s : State) : List Nat := (List.range s.geo.dies).map fun k => (s.rotation + 1 + k) % s.geo.dies

/-- R79: of two dies met in cyclic order, the later one is preferred only with fewer open write points. -/
def State.betterDie (s : State) (mask : DieMask) (best : Option Nat) (d : Nat) : Option Nat :=
  if s.eligible mask d then
    match best with
    | none => some d
    | some b => if (s.die d).openPoints < (s.die b).openPoints then some d else some b
  else best

/-- R79: the eligible die with the fewest open write points, the first in cyclic order among equals. -/
def State.chooseDie (s : State) (mask : DieMask) : Option Nat := s.dieOrder.foldl (s.betterDie mask) none

/-- R81: a die whose free count is below the low-water mark, with its supply-low mark clear, reports SUPPLY LOW once. -/
def State.reportSupplyLow (s : State) (d : Nat) : State :=
  let die := s.die d
  if die.freeQueue.length < s.limits.lowWater && !die.supplyLow then
    (s.emitToDie d (.supplyLow d die.freeQueue.length)).setDie d { die with supplyLow := true }
  else s

/-- R76, R19: a free count at or above the low-water mark clears the supply-low mark. -/
def State.clearSupplyLow (s : State) (d : Nat) : State :=
  let die := s.die d
  if s.limits.lowWater ≤ die.freeQueue.length then s.setDie d { die with supplyLow := false } else s

/-- R80, R87: the state of a stream that gains a write point. DRAINING stays DRAINING. -/
def StreamState.gainPoint : StreamState → StreamState
  | .idle => .active
  | .waitSupply => .active
  | .free => .free
  | .active => .active
  | .draining => .draining
  | .halted => .halted

/-- R87, R116, R125: the state of a stream that loses its write point. DRAINING stays DRAINING. -/
def StreamState.losePoint : StreamState → StreamState
  | .active => .idle
  | .free => .free
  | .idle => .idle
  | .waitSupply => .waitSupply
  | .draining => .draining
  | .halted => .halted

/-- The supply wait of stream i becomes no: it leaves the WAIT-SUPPLY list (R84). -/
def State.leaveSupply (s : State) (i : Nat) : State := { s with waitSupply := s.waitSupply.filter (· ≠ i) }

/-- R80: block b, the head of die d's free queue, becomes OPEN as the write point of stream i. -/
def State.openPoint (s : State) (i d b : Nat) : State :=
  let st := s.stream i
  let die := s.die d
  let s := s.setDie d { die with freeQueue := die.freeQueue.tail, openPoints := die.openPoints + 1 }
  let s := s.setSegment ⟨d, b⟩ { Segment.powerOn with state := .opened, owner := some i, cls := st.cls.segment }
  let s := s.setStream i { st with writePoint := some ⟨d, b⟩, state := st.state.gainPoint }
  { s.leaveSupply i with rotation := d }

/-- R78 to R81: an allocation for stream i; none when no die is eligible. -/
def State.allocate (s : State) (i : Nat) : Option State :=
  match s.chooseDie (s.stream i).mask with
  | none => none
  | some d =>
    match (s.die d).freeQueue with
    | [] => none
    | b :: _ => some ((s.openPoint i d b).reportSupplyLow d)

/-- R82: a stream whose allocation failed joins the tail of the WAIT-SUPPLY list, unless it is already on it. -/
def State.joinSupply (s : State) (i : Nat) : State :=
  let st := s.stream i
  let s := if s.supplyWait i then s else { s with waitSupply := s.waitSupply ++ [i] }
  s.setStream i { st with state := if st.state = .idle then .waitSupply else st.state }

/-! ### Slot wait lists (R59) -/

/-- R59: stream i joins the tail of die d's slot wait list, if it is not already on it. -/
def State.joinSlotWait (s : State) (d i : Nat) : State :=
  let die := s.die d
  if die.slotWait.contains i then s else s.setDie d { die with slotWait := die.slotWait ++ [i] }

/-- R59: stream i leaves die d's slot wait list. -/
def State.leaveSlotWait (s : State) (d i : Nat) : State :=
  let die := s.die d
  s.setDie d { die with slotWait := die.slotWait.filter (· ≠ i) }

/-- R59: stream i leaves the slot wait list of its write point's die, the only one it can be on. -/
def State.leaveOwnSlotWait (s : State) (i : Nat) : State :=
  match (s.stream i).writePoint with
  | some g => s.leaveSlotWait g.die i
  | none => s

/-! ### Closing (section 4.6) -/

/-- R73: one OPEN segment of the die less. -/
def State.dropOpenPoint (s : State) (d : Nat) : State :=
  let die := s.die d
  s.setDie d { die with openPoints := die.openPoints - 1 }

/-- R88 step 5: segment g stops being its owner's write point or finishing segment. -/
def State.detach (s : State) (i : Nat) (g : Seg) : State :=
  let st := s.stream i
  s.setStream i { st with
    writePoint := if st.writePoint = some g then none else st.writePoint,
    finishing := if st.finishing = some g then none else st.finishing }

/-- R88 steps 2 to 5 on the entry of segment g. -/
def Segment.close (e : Segment) (units : Nat) (seq : Word) (failure : Bool) : Segment :=
  { e with state := .closed, nextUnit := e.doneUnits, closeSeq := seq,
           short := if e.doneUnits < units then true else e.short, failed := if failure then true else e.failed }

/-- R88, R91: the closing step of segment g. `failure` is a program failure or core takeover as the cause. -/
def State.closeSegment (s : State) (g : Seg) (failure : Bool) : State :=
  let e := s.segment g
  let s := if e.state = .opened then s.dropOpenPoint g.die else s
  let s := { s with closeSeq := s.closeSeq + 1 }
  let e' := e.close s.geo.units s.closeSeq failure
  let s := s.setSegment g e'
  let s := match e.owner with
    | some i => s.detach i g
    | none => s
  (s.emitToDie g.die (.segmentClosed g e.owner e'.short e'.failed)).emit .rp (.segmentClosed g e.owner e'.short e'.failed)

end Sys2Proof.Machine
end

