-- ==== Sys2Proof/Machine/Assembly.lean ====
section
/-! DEFINITION. The Batch Assembler: seals, cuts, the test of a stream, and the two arbiters (sections 3.4 to 3.6, 4.5). -/

namespace Sys2Proof.Machine

/-! ### Seals (section 3.6) -/

/-- R64: the timeout a stream uses. -/
def State.sealTimeout (s : State) (i : Nat) : Nat :=
  let st := s.stream i
  match st.cls with
  | .tenant => (s.function st.owner).timeout
  | .reclaim => s.limits.reclaimTimeout

/-- The flush cause of R69: a pending flush of the function, with serial S, and a record whose serial is earlier than S. -/
def flushCause (fl : Flush) (o : Origin) : Bool :=
  match fl, o with
  | .pending serial _, .tenant _ a => earlier a serial
  | .complete serial _, .tenant _ a => earlier a serial
  | _, _ => false

/-- R69: the standing causes of stream i, with r its oldest uncut record. -/
def State.standing (s : State) (i r : Nat) : Bool :=
  let st := s.stream i
  let fn := s.function st.owner
  st.state = .draining || s.device = .drain ||
    (st.cls = .tenant && (fn.state = .fenced || flushCause fn.flush (s.record r).origin))

/-- R65: the seal a stream with oldest uncut record r is given; DISARMED with no uncut sector (R64). -/
def State.sealFor (s : State) (i : Nat) : Seal :=
  match s.cutRecord i with
  | none => .disarmed
  | some r =>
    if s.standing i r then .pending
    else if s.sealTimeout i = 0 then .disarmed
    else
      let deadline := (s.record r).admitted + BitVec.ofNat 32 (s.sealTimeout i)
      if passed s.tick deadline then .pending else .armed deadline

/-- A seal setting (R65). -/
def State.setSeal (s : State) (i : Nat) : State := s.setStream i { s.stream i with sealing := s.sealFor i }

/-- R68: a request to mark a seal PENDING is ignored while the uncut count is 0 (R64). -/
def State.markPending (s : State) (i : Nat) : State :=
  if s.uncut i = 0 then s else s.setStream i { s.stream i with sealing := .pending }

/-! ### Forming a batch (section 3.5) -/

/-- R60: what a cut takes from the chain: each record with uncut sectors, from the cut point on, and the count taken,
until `need` sectors are taken. -/
def State.takeFrom (s : State) : List Nat → Nat → List (Nat × Nat)
  | [], _ => []
  | r :: rs, need =>
    let k := min (s.record r).uncut need
    if k = 0 then s.takeFrom rs need else (r, k) :: s.takeFrom rs (need - k)

/-- R61: the extent of k sectors taken from a record, beginning at its placed count. -/
def Fragment.extent (f : Fragment) (r k : Nat) : Extent :=
  let sum := f.offset.toNat + f.placed * 4096
  { record := r
    lba := f.lba + BitVec.ofNat 48 f.placed
    region := if 2 ^ 32 ≤ sum then f.region + 1 else f.region
    offset := BitVec.ofNat 32 sum
    sectors := k
    fn := match f.origin with
      | .tenant fn _ => some fn
      | .reclaim => none }

/-- R60: the placed count of a record rises by the count taken from it. -/
def State.place (s : State) (part : Nat × Nat) : State :=
  s.setRecord part.1 { s.record part.1 with placed := (s.record part.1).placed + part.2 }

/-- R96: the free slot with the lowest number. -/
def State.freeSlotNumber (s : State) : Option Nat := lowestFrom (fun k => (s.slot k).batch.isNone) Config.slots 0

/-- R96: the queue a batch of die d joins: its core's, or the parked queue. -/
def State.placeOf (s : State) (d : Nat) : Place :=
  match (s.die d).assigned with
  | some c => .core c
  | none => .parked

/-- R62 step 5, R87: a write point whose next unit has reached P becomes FILLED and the stream's finishing segment. -/
def State.fillPoint (s : State) (i : Nat) (g : Seg) : State :=
  if s.geo.units ≤ (s.segment g).nextUnit then
    let s := s.setSegment g { s.segment g with state := .filled }
    let s := s.dropOpenPoint g.die
    let st := s.stream i
    s.setStream i { st with writePoint := none, finishing := some g, state := st.state.losePoint }
  else s

/-- The batch a cut of stream i forms (R60, R62, R96). -/
def State.batchOf (s : State) (i : Nat) (g : Seg) : Batch :=
  let st := s.stream i
  let real := min s.geo.sectors (s.uncut i)
  { phase := .queued, place := s.placeOf g.die, stream := i, cls := st.cls, seg := g, unit := (s.segment g).nextUnit,
    real := real, pad := s.geo.sectors - real,
    extents := (s.takeFrom st.chain real).map fun part => (s.record part.1).extent part.1 part.2, overdue := false }

/-- R62 steps 1, 2 and 4: the pad total (saturating), the write point's next unit, and the two in-flight counts. -/
def State.countBatch (s : State) (i : Nat) (g : Seg) (pad : Nat) : State :=
  let s := s.setSegment g { s.segment g with nextUnit := (s.segment g).nextUnit + 1 }
  let st := s.stream i
  let s := s.setStream i { st with inFlight := st.inFlight + 1, padTotal := min (st.padTotal + pad) (2 ^ 32 - 1) }
  let die := s.die g.die
  s.setDie g.die { die with inFlight := die.inFlight + 1 }

/-- R60 to R62, R66: stream i cuts one batch into its write point g, in slot k. -/
def State.cutInto (s : State) (i : Nat) (g : Seg) (k : Nat) : State :=
  let b := s.batchOf i g
  let t := (s.takeFrom (s.stream i).chain b.real).foldl State.place s
  let t := (t.setSlot k { t.slot k with batch := some b }).enqueue b.place k
  let t := (t.countBatch i g b.pad).fillPoint i g
  t.setSeal i

/-- A cut of stream i into write point g. A free slot is always found (R62); without one nothing is cut (log entry 13). -/
def State.cut (s : State) (i : Nat) (g : Seg) : State :=
  match s.freeSlotNumber with
  | some k => s.cutInto i g k
  | none => s

/-! ### The test of a stream (section 3.4) -/

/-- R57: a cut is due on stream i. -/
def State.cutDue (s : State) (i : Nat) : Bool :=
  let st := s.stream i
  st.state ≠ .free && st.state ≠ .halted && 1 ≤ s.uncut i && (s.geo.sectors ≤ s.uncut i || st.sealing = .pending) &&
    st.inFlight < st.depth

/-- R57 to R59: one pass of the BA's test of stream i when a cut is due. The Boolean asks for another pass. -/
def State.testPass (s : State) (i : Nat) : State × Bool :=
  let st := s.stream i
  match st.writePoint with
  | some g =>
    if (s.die g.die).inFlight < s.limits.dieInFlight then (s.cut i g, true) else (s.joinSlotWait g.die i, false)
  | none =>
    if st.finishing.isSome || s.supplyWait i then (s, false)
    else
      match s.allocate i with
      | some t => (t, true)
      | none => (s.joinSupply i, false)

/-- The BA's test of stream i, at most `fuel` passes. -/
def State.testFor : Nat → State → Nat → State
  | 0, s, _ => s
  | fuel + 1, s, i =>
    if s.cutDue i then
      match s.testPass i with
      | (t, true) => State.testFor fuel t i
      | (t, false) => t
    else s

/-- R57: the BA tests stream i until a condition fails. One test makes at most one allocation, and no more cuts than
the depth, so depth + 2 passes always suffice. -/
def State.test (s : State) (i : Nat) : State := State.testFor ((s.stream i).depth + 2) s i

/-- R68: mark the seal of stream i PENDING if it has uncut sectors, then test it. -/
def State.markAndTest (s : State) (i : Nat) : State := if s.uncut i = 0 then s else (s.markPending i).test i

/-! ### The arbiters -/

/-- R59: the slot arbiter of die d, at most `fuel` grants. -/
def State.grantSlots : Nat → State → Nat → State
  | 0, s, _ => s
  | fuel + 1, s, d =>
    let die := s.die d
    match die.slotWait with
    | [] => s
    | i :: rest =>
      if die.inFlight < s.limits.dieInFlight then
        State.grantSlots fuel ((s.setDie d { die with slotWait := rest }).test i) d
      else s

/-- R59: the slot arbiter of die d. Each grant takes a stream off the list, and one that rejoins finds the die at its
limit, so no more grants are made than the list holds streams. -/
def State.slotArbiter (s : State) (d : Nat) : State := State.grantSlots (s.die d).slotWait.length s d

/-- R85: the oldest waiting stream whose mask covers die d. -/
def State.waiterFor (s : State) (d : Nat) : Option Nat := s.waitSupply.find? fun i => (s.stream i).mask.getLsbD d

/-- R85: the WAIT-SUPPLY arbiter's loop on die d, at most `fuel` offers. -/
def State.serveSupply : Nat → State → Nat → State
  | 0, s, _ => s
  | fuel + 1, s, d =>
    if (s.die d).assigned.isSome && !(s.die d).freeQueue.isEmpty then
      match s.waiterFor d with
      | none => s
      | some i =>
        match (s.leaveSupply i).allocate i with
        | some t => State.serveSupply fuel (t.test i) d
        | none => s
    else s

/-- R85: the WAIT-SUPPLY arbiter serves die d. Each offer takes a stream off the list. -/
def State.supplyArbiter (s : State) (d : Nat) : State := State.serveSupply s.waitSupply.length s d

end Sys2Proof.Machine
end

