-- ==== Sys2Proof/Machine/Completion.lean ====
section
/-! DEFINITION. What completes inside other steps: closes of streams (R18 to R20), reports (R55, R171), retirement
(R54), flushes (R150), fences (R156) and the drain (R160); and discard markings (R52). -/

namespace Sys2Proof.Machine

/-! ### Completion of a close (section 1.8) -/

/-- R19: an untouched write point returns to the head of its die's free queue, or becomes UNTRACKED when 32 wait there. -/
def State.returnPoint (s : State) (i : Nat) (g : Seg) : State :=
  let s := (s.dropOpenPoint g.die).detach i g
  let die := s.die g.die
  if die.freeQueue.length < Config.freeQueue then
    let s := s.setDie g.die { die with freeQueue := g.block :: die.freeQueue }
    let s := s.setSegment g { Segment.powerOn with state := .free }
    (s.clearSupplyLow g.die).supplyArbiter g.die
  else
    (s.setSegment g Segment.powerOn).emitToDie g.die (.segmentReleased g)

/-- R19: the write point of a stream whose close completes is disposed of. -/
def State.disposePoint (s : State) (i : Nat) : State :=
  match (s.stream i).writePoint with
  | none => s
  | some g => if (s.segment g).nextUnit = 0 then s.returnPoint i g else s.closeSegment g false

/-- R2: one open stream of the class, and of the owner function, less. -/
def State.countClosed (s : State) (cls : StreamClass) (owner : Nat) : State :=
  match cls with
  | .tenant => s.setFunction owner { s.function owner with openStreams := (s.function owner).openStreams - 1 }
  | .reclaim => { s with openReclaim := s.openReclaim - 1 }

/-- R20: STREAM CLOSED on the close requester's port, and on FP for a TENANT stream. -/
def State.emitClosed (s : State) (i : Nat) (cls : StreamClass) (requester : Option Port) : State :=
  let s := match requester with
    | some p => s.emit p (.streamClosed i)
    | none => s
  match cls with
  | .tenant => s.emit .fp (.streamClosed i)
  | .reclaim => s

/-- R19, R20: the close of stream i completes. -/
def State.completeClose (s : State) (i : Nat) : State :=
  let st := s.stream i
  let s := ((s.leaveOwnSlotWait i).disposePoint i).leaveSupply i
  let s := s.setStream i (Stream.freeOf st.cls st.owner)
  (s.countClosed st.cls st.owner).emitClosed i st.cls st.requester

/-- Is a PENDING-REPORT record of stream i on the pending-report list? -/
def State.reportsOf (s : State) (i : Nat) : Bool :=
  s.reports.any fun c => match c with
    | .fragment r => (s.record r).stream = i
    | .flush _ => false

/-- R18: the conditions of a completed close. -/
def State.closeReady (s : State) (i : Nat) : Bool :=
  let st := s.stream i
  st.state = .draining && st.chain.isEmpty && st.inFlight = 0 && !s.reportsOf i

/-- R18: the close completion test of stream i. -/
def State.closeTest (s : State) (i : Nat) : State := if s.closeReady i then s.completeClose i else s

/-! ### Fences -/

/-- R156: the fence of function f completes when nothing of it is outstanding. -/
def State.fenceTest (s : State) (f : Nat) : State :=
  let fn := s.function f
  match fn.fence with
  | some (_, p) =>
    if fn.outstanding = 0 then
      (s.emit p (.fenceComplete f fn.violations)).setFunction f { fn with violations := 0, fence := none }
    else s
  | none => s

/-! ### Reports (R55, R171) -/

/-- R55: a reported record becomes FREE, with the consequences R55 lists, in its order. -/
def State.freeRecord (s : State) (r : Nat) : State :=
  let f := s.record r
  let s := s.setRecord r .powerOn
  let s := match f.origin with
    | .tenant fn _ =>
      let s := { s with tenantInUse := s.tenantInUse - 1 }
      let s := s.setFunction fn { s.function fn with outstanding := (s.function fn).outstanding - 1 }
      (s.fenceTest fn).openTenantRecordsWaits
    | .reclaim => { s with reclaimInUse := s.reclaimInUse - 1 }.openReclaimRecordsWait
  s.closeTest f.stream

/-- R55: the port a completion is reported on. -/
def State.reportPort (s : State) : Completion → Port
  | .fragment r =>
    match (s.record r).origin with
    | .tenant _ _ => .fp
    | .reclaim => .rp
  | .flush _ => .fp

/-- R150: the tag of a flush. -/
def Flush.tag : Flush → Word
  | .none => 0
  | .pending _ t => t
  | .complete _ t => t

/-- R55: the status carried by the FRAGMENT DONE of a record. -/
def Fragment.reportStatus (f : Fragment) : RetireStatus :=
  match f.condition with
  | .pendingReport st => st
  | .free => f.retireStatus
  | .chained => f.retireStatus

/-- R55, R150, R171: one completion enters its event queue, and its consequences follow. -/
def State.report (s : State) (c : Completion) : State :=
  let t := { s with reports := s.reports.erase c }
  match c with
  | .fragment r =>
    let f := s.record r
    (t.pushEvent (s.reportPort c) (.fragmentDone f.tag f.stream f.reportStatus)).freeRecord r
  | .flush f =>
    (t.pushEvent .fp (.flushDone f (s.function f).flush.tag)).setFunction f { s.function f with flush := .none }

/-- R171: the oldest completion waiting for a port. -/
def State.oldestReport (s : State) (p : Port) : Option Completion := s.reports.find? fun c => s.reportPort c = p

/-- R171: waiting completions of a port are placed, oldest first, at most `fuel` of them. -/
def State.placeFor : Nat → State → Port → State
  | 0, s, _ => s
  | fuel + 1, s, p =>
    if s.hasRoom p then
      match s.oldestReport p with
      | some c => State.placeFor fuel (s.report c) p
      | none => s
    else s

/-- R171: placement goes on while the queue has a free entry and a completion waits. Each one leaves the list. -/
def State.placeReports (s : State) (p : Port) : State := State.placeFor s.reports.length s p

/-- A completion joins the reporting order, and is reported when its queue has room and nothing older waits. -/
def State.addReport (s : State) (c : Completion) : State :=
  let s := { s with reports := s.reports ++ [c] }
  s.placeReports (s.reportPort c)

/-! ### Flushes -/

/-- R150: a CHAINED record of function f has an admission serial earlier than S. -/
def State.flushHeld (s : State) (f : Nat) (serial : Word) : Bool :=
  s.records.any fun c => c.2.condition = .chained &&
    match c.2.origin with
    | .tenant fn a => fn = f && earlier a serial
    | .reclaim => false

/-- R150: the completion test of the flush of function f. -/
def State.flushTest (s : State) (f : Nat) : State :=
  match (s.function f).flush with
  | .pending serial tag =>
    if s.flushHeld f serial then s
    else (s.setFunction f { s.function f with flush := .complete serial tag }).addReport (.flush f)
  | .complete _ _ => s
  | .none => s

/-! ### Retirement (R54) -/

/-- R54: the head record r of stream i leaves the chain, becomes PENDING-REPORT and joins the pending-report list. -/
def State.retireHead (s : State) (i r : Nat) : State :=
  let f := s.record r
  let s := s.setStream i { s.stream i with chain := (s.stream i).chain.tail }
  (s.setRecord r { f with condition := .pendingReport f.retireStatus }).addReport (.fragment r)

/-- R54: a retirement run on stream i, at most `fuel` records long; the count is of the records retired. -/
def State.retireFor : Nat → State → Nat → State × Nat
  | 0, s, _ => (s, 0)
  | fuel + 1, s, i =>
    match (s.stream i).chain with
    | [] => (s, 0)
    | r :: _ =>
      if (s.record r).durable = (s.record r).stop then
        let (t, n) := State.retireFor fuel (s.retireHead i r) i
        (t, n + 1)
      else (s, 0)

/-- R150: the flush of a TENANT stream's function is tested after a run that retired a record of it. -/
def State.afterRun (s : State) (cls : StreamClass) (owner retired : Nat) : State :=
  if retired = 0 then s
  else
    match cls with
    | .tenant => s.flushTest owner
    | .reclaim => s

/-- R54, R150: the FRP retires from the head of stream i as far as it can, then tests the flush. -/
def State.retire (s : State) (i : Nat) : State × Nat :=
  let st := s.stream i
  let (t, n) := State.retireFor st.chain.length s i
  (t.afterRun st.cls st.owner n, n)

/-! ### Discard markings (R52) -/

/-- R52: the mark of one record: its boundary becomes its placed count. -/
def State.markRecord (s : State) (r : Nat) : State :=
  s.setRecord r { s.record r with mark := some (s.record r).placed }

/-- R52: the given records of stream i are marked, the sectors this gives up are released, and the seal is DISARMED
when no uncut sector is left. The count is of the sectors released. -/
def State.discardMarks (s : State) (i : Nat) (rs : List Nat) : State × Nat :=
  let k := (rs.map fun r => (s.record r).uncut).sum
  let t := (rs.foldl State.markRecord s).releaseStream i k
  (if t.uncut i = 0 then t.setStream i { t.stream i with sealing := .disarmed } else t, k)

/-- R153: the record at the cut point of stream i and every record behind it. -/
def State.fromCut (s : State) (i : Nat) : List Nat :=
  (s.stream i).chain.dropWhile fun r => !((s.record r).placed < (s.record r).stop)

/-! ### The drain (section 8.4) -/

/-- R160: every CHAINED record belongs to a HALTED stream. -/
def State.drainReady (s : State) : Bool :=
  s.records.all fun c => c.2.condition ≠ .chained || (s.stream c.2.stream).state = .halted

/-- The number of CHAINED records. -/
def State.chainedCount (s : State) : Nat := (s.records.filter fun c => c.2.condition = .chained).length

/-- R158, R160: DRAIN COMPLETE on all four ports, and the device DRAINED. -/
def State.completeDrain (s : State) (n : Nat) : State :=
  let s := (((s.emit .fp (.drainComplete n)).emit .mp0 (.drainComplete n)).emit .mp1 (.drainComplete n)).emit .rp
    (.drainComplete n)
  s.setControl { s.control with device := .drained }

/-- R160: the drain completion test. -/
def State.drainTest (s : State) : State :=
  if s.device = .drain && s.drainReady then s.completeDrain s.chainedCount else s

end Sys2Proof.Machine
end

