-- ==== Sys2Proof/Machine/Batches.lean ====
section
/-! DEFINITION. The Dispatch Unit: the effects of DONE (R106 to R109), of FAILED (R114 to R118), of an expired batch
deadline (R122), and the takeover of a core (R124 to R127). -/

namespace Sys2Proof.Machine

/-! ### Batches in flight -/

/-- The batch in slot k, if it belongs to stream i. -/
def State.batchOfStream (s : State) (i k : Nat) : Option Batch :=
  match (s.slot k).batch with
  | some b => if b.stream = i then some b else none
  | none => none

/-- The slots that hold a batch of stream i. -/
def State.flightOf (s : State) (i : Nat) : List Nat :=
  (Table.indices s.slots).filter fun k => (s.batchOfStream i k).isSome

/-- The unit of the batch in slot k. -/
def State.unitOf (s : State) (k : Nat) : Nat :=
  match (s.slot k).batch with
  | some b => b.unit
  | none => 0

/-- Insertion into a list in rising order of `key`, behind equal keys. -/
def insertBy (key : Nat → Nat) (x : Nat) : List Nat → List Nat
  | [] => [x]
  | y :: t => if key x < key y then x :: y :: t else y :: insertBy key x t

/-- A list in rising order of `key`. -/
def sortBy (key : Nat → Nat) : List Nat → List Nat
  | [] => []
  | x :: t => insertBy key x (sortBy key t)

/-- The slots that hold a batch of stream i, in unit order. -/
def State.flightInOrder (s : State) (i : Nat) : List Nat := sortBy s.unitOf (s.flightOf i)

/-- R114, R125: the batches in the slots end without a result; the in-flight counts of the stream and die fall. -/
def State.withdraw (s : State) (i d : Nat) (ks : List Nat) : State :=
  let s := ks.foldl State.freeSlot s
  let st := s.stream i
  let s := s.setStream i { st with inFlight := st.inFlight - ks.length }
  let die := s.die d
  s.setDie d { die with inFlight := die.inFlight - ks.length }

/-- R53: a record behind the rewind position has placed 0. -/
def State.unplace (s : State) (r : Nat) : State := s.setRecord r { s.record r with placed := 0 }

/-- R53: the rewind of stream i to record r at a sector offset. -/
def State.rewind (s : State) (i r offset : Nat) : State :=
  match (s.stream i).chain.dropWhile (fun x => x ≠ r) with
  | [] => s
  | _ :: behind =>
    let s := s.setRecord r { s.record r with placed := offset }
    behind.foldl State.unplace s

/-- R115: the rewind of stream i to the start of a batch's first extent. The offset is the extent's LBA minus the
record's start LBA. -/
def State.rewindTo (s : State) (i : Nat) (b : Batch) : State :=
  match b.extents with
  | [] => s
  | e :: _ => s.rewind i e.record (e.lba - (s.record e.record).lba).toNat

/-- R116, R125: stream i loses segment g, closed short with the F flag, and leaves die d's slot wait list. -/
def State.loseSegment (s : State) (i : Nat) (g : Seg) : State :=
  let s := (s.closeSegment g true).leaveSlotWait g.die i
  s.setStream i { s.stream i with state := (s.stream i).state.losePoint }

/-! ### DONE (section 5.5) -/

/-- R106: an accepted DONE advances its segment. -/
def State.advance (s : State) (b : Batch) : State :=
  let e := s.segment b.seg
  s.setSegment b.seg { e with doneUnits := e.doneUnits + 1, written := e.written + b.real, valid := e.valid + b.real }

/-- R51: the durable count of an extent's record rises by the extent's sector count. -/
def State.makeDurable (s : State) (e : Extent) : State :=
  s.setRecord e.record { s.record e.record with durable := (s.record e.record).durable + e.sectors }

/-- R108: a batch in slot k leaves flight through DONE. -/
def State.endFlight (s : State) (b : Batch) (k : Nat) : State :=
  let st := s.stream b.stream
  let s := s.setStream b.stream { st with inFlight := st.inFlight - 1, failures := 0, batchesDone := st.batchesDone + 1 }
  let die := s.die b.seg.die
  let s := s.setDie b.seg.die { die with inFlight := die.inFlight - 1 }
  s.freeSlot k

/-- R89, R109: a FILLED segment whose done units have reached P closes. -/
def State.closeIfDone (s : State) (g : Seg) : State :=
  if (s.segment g).state = .filled && s.geo.units ≤ (s.segment g).doneUnits then s.closeSegment g false else s

/-- R106 to R109: the effects of an accepted DONE for batch b in slot k; the count is of the records retired. -/
def State.done (s : State) (b : Batch) (k : Nat) : State × Nat :=
  let s := b.extents.foldl State.makeDurable (s.advance b)
  let (s, n) := s.retire b.stream
  let s := (s.releaseStream b.stream b.real).endFlight b k
  let s := (s.slotArbiter b.seg.die).closeIfDone b.seg
  let s := (s.test b.stream).closeTest b.stream
  (s.drainTest, n)

/-! ### FAILED (section 6.2) -/

/-- R118: STREAM HALTED on FP or RP by the stream's class, and on both mapping ports. -/
def State.emitHalted (s : State) (i : Nat) : State :=
  let st := s.stream i
  match st.cls with
  | .tenant => (s.emit .fp (.streamHalted i (some st.owner))).emitToCores (.streamHalted i (some st.owner))
  | .reclaim => (s.emit .rp (.streamHalted i none)).emitToCores (.streamHalted i none)

/-- R118, R21, R3: stream i becomes HALTED; a close in progress is abandoned. -/
def State.halt (s : State) (i : Nat) : State :=
  let s := (s.leaveOwnSlotWait i).leaveSupply i
  let s := s.setStream i { s.stream i with state := .halted, requester := none }
  (s.setSeal i).emitHalted i

/-- R117, R118: the failure count rises, and the stream goes on or halts. -/
def State.countFailure (s : State) (i : Nat) : State :=
  let st := s.stream i
  let s := s.setStream i { st with failures := st.failures + 1 }
  if st.failures + 1 < s.limits.failureLimit then (s.setSeal i).test i else s.halt i

/-- R114 to R118: the effects of an accepted FAILED result for batch b. -/
def State.fail (s : State) (b : Batch) : State :=
  let s := (s.withdraw b.stream b.seg.die (s.flightOf b.stream)).rewindTo b.stream b
  let s := (s.loseSegment b.stream b.seg).slotArbiter b.seg.die
  (s.countFailure b.stream).drainTest

/-! ### Core takeover (section 6.6) -/

/-- R99: the state of core k becomes FAILED. -/
def State.failCore (s : State) : Core → State
  | .core0 => { s with cores := { s.cores with core0 := .failed } }
  | .core1 => { s with cores := { s.cores with core1 := .failed } }

/-- R124: the core that takes over from core k: the other one while it is ACTIVE, or none. -/
def State.survivor (s : State) (k : Core) : Option Core := if s.core k.other = .active then some k.other else none

/-- R124: the dies whose assigned core is k. -/
def State.diesOf (s : State) (k : Core) : List Nat :=
  (Table.indices s.dies).filter fun d => (s.die d).assigned = some k

/-- R124: a die is reassigned. Its configured core is not changed. -/
def State.reassign (c : Option Core) (s : State) (d : Nat) : State := s.setDie d { s.die d with assigned := c }

/-- Is the batch TAKEN? -/
def Batch.isTaken (b : Batch) : Bool :=
  match b.phase with
  | .taken _ => true
  | .queued => false

/-- R125: stream i has a batch TAKEN by core k. -/
def State.takenBy (s : State) (k : Core) (i : Nat) : Bool :=
  (Table.indices s.slots).any fun n =>
    match s.batchOfStream i n with
    | some b => b.isTaken && b.place = .core k
    | none => false

/-- R125: the streams that have a batch TAKEN by core k, in ascending index. -/
def State.streamsTakenBy (s : State) (k : Core) : List Nat := (Table.indices s.streams).filter (s.takenBy k)

/-- R125: the takeover of one stream: its batches are withdrawn, its chain rewound, its segment closed short. -/
def State.takeoverStream (s : State) (i : Nat) : State :=
  match s.flightInOrder i with
  | [] => s
  | k :: ks =>
    match (s.slot k).batch with
    | none => s
    | some b => (((s.withdraw i b.seg.die (k :: ks)).rewindTo i b).loseSegment i b.seg).setSeal i

/-- R126: the batch in slot n moves to another place. -/
def State.movePlace (pl : Place) (s : State) (n : Nat) : State :=
  match (s.slot n).batch with
  | some b => s.setSlot n { s.slot n with batch := some { b with place := pl } }
  | none => s

/-- R126: core k's dispatch queue moves, in order, to the tail of the survivor's queue, or of the parked queue. -/
def State.moveQueue (s : State) (k : Core) (j : Option Core) : State :=
  let pl : Place := match j with
    | some c => .core c
    | none => .parked
  let moved := s.queues.at (.core k)
  let s := { s with queues := (s.queues.put (.core k) []).put pl (s.queues.at pl ++ moved) }
  moved.foldl (State.movePlace pl) s

/-- The dies of the batches of the given streams, each once, in ascending number. -/
def State.diesInFlight (s : State) (is : List Nat) : List Nat :=
  (Table.indices s.dies).filter fun d =>
    is.any fun i => (s.flightOf i).any fun n =>
      match (s.slot n).batch with
      | some b => b.seg.die = d
      | none => false

/-- R124 to R127: the takeover of core k, whole. -/
def State.takeover (s : State) (k : Core) : State :=
  let j := s.survivor k
  let dies := s.diesOf k
  let is := s.streamsTakenBy k
  let lowered := s.diesInFlight is
  let s := dies.foldl (State.reassign j) (s.failCore k)
  let s := (is.foldl State.takeoverStream s).moveQueue k j
  let s := s.emitToCores (.coreTakeover k j dies.length is.length)
  let s := lowered.foldl State.slotArbiter s
  is.foldl State.test s

/-- R122: the overdue-reported mark of the batch in slot n. -/
def State.markOverdue (s : State) (n : Nat) (b : Batch) : State :=
  s.setSlot n { s.slot n with batch := some { b with overdue := true } }

/-- R122: the deadline of batch b, TAKEN by core c in slot n, expires. The overdue mode is read at the expiry. -/
def State.expireBatch (s : State) (n : Nat) (b : Batch) (c : Core) : State :=
  match s.limits.overdue with
  | .report => (s.emitToCores (.batchOverdue n (s.slot n).gen c)).markOverdue n b
  | .takeover => s.takeover c

end Sys2Proof.Machine
end

