-- ==== Sys2Proof/Machine/Ports.lean ====
section
/-! DEFINITION. The Port Interface Unit: buffers, permissions and the execution of requests (sections 9.1 to 9.4),
and the meanings of the link's own commands. -/

namespace Sys2Proof.Machine

/-! ### Permissions (R166, R128) -/

/-- Table 9-2: from which ports a request kind is taken. -/
def permitted (kind : Byte) (p : Port) : Bool :=
  match kind.toNat, p with
  | 0x01, .fp | 0x01, .rp => true
  | 0x01, .mp0 | 0x01, .mp1 => false
  | 0x02, .fp => true
  | 0x02, _ => false
  | 0x03, .fp | 0x07, .fp => false
  | 0x03, _ | 0x07, _ => true
  | 0x11, .rp | 0x12, .rp | 0x13, .rp | 0x14, .rp => true
  | 0x11, _ | 0x12, _ | 0x13, _ | 0x14, _ => false
  | 0x1C, _ | 0x1D, _ | 0x1E, _ | 0x1F, _ | 0x20, _ | 0x21, _ | 0x22, _ => true
  | _, .mp0 | _, .mp1 => true
  | _, .fp | _, .rp => false

/-- R128: the kinds that the port of a FAILED core serves: the queries, COLLECT and SET NOTICE. -/
def servedWhenFailed (kind : Byte) : Bool := 0x1C ≤ kind.toNat && kind.toNat ≤ 0x22

/-- R165 check 7: the port is that of a FAILED core, and the kind is not one R128 lets it serve. -/
def State.barred (s : State) (p : Port) (kind : Byte) : Bool :=
  match portCore p with
  | some c => s.core c = .failed && !servedWhenFailed kind
  | none => false

/-- Checks 6 and 7 of R165, then the owner block's checks and effects. -/
def serve (p : Port) (kind : Byte) (act : State → Reply) (s : State) : Reply :=
  if !permitted kind p then s.refuse .notPermitted
  else if s.barred p kind then s.refuse .coreFailed
  else act s

/-! ### Buffers (R164, R167) -/

/-- Is a response buffer of the port empty? -/
def State.canRespond (s : State) (p : Port) : Bool := (s.port p).responses.length < Config.portBuffers

/-- R167: a response is placed in an empty response buffer, with a CRC byte when the request had the mark (R168). -/
def placeResponse (p : Port) (kind : Byte) (crc : Bool) (r : Reply) : State :=
  r.next.setPort p { r.next.port p with
    responses := (r.next.port p).responses ++ [responseFrame kind crc r.code.byte r.payload] }

/-- The link's answer to the port's master. -/
def State.setLink (s : State) (p : Port) (l : Link) : State := s.setPort p { s.port p with link := l }

/-- R164: a frame is taken into a free request buffer, or refused on the link with BUSY. -/
def State.arrive (s : State) (p : Port) (frame : List Byte) : State :=
  if (s.port p).requests.length < Config.portBuffers then
    s.setPort p { s.port p with requests := (s.port p).requests ++ [frame], link := .taken }
  else s.setLink p .busy

/-- R167: the port's oldest request buffer becomes empty. -/
def State.dropRequest (s : State) (p : Port) : State :=
  s.setPort p { s.port p with requests := (s.port p).requests.tail }

/-- The execution of a request in its turn on port p, shared by every request row. `isThis` says that the oldest
waiting frame is the request of this row, and `run` executes it.
With no request waiting, the frame arrives and is executed in the one step (Table 9-4 step 3). When the oldest waiting
request is this one, it is executed (steps 2 and 9). Behind another request the frame arrives and waits. While no
response buffer is empty nothing is executed (R167). -/
def takeTurn (p : Port) (frame : List Byte) (isThis : List Byte → Bool) (run : State → State) (s : State) : State :=
  match (s.port p).requests with
  | [] => if s.canRespond p then run (s.setLink p .taken) else s.arrive p frame
  | f :: _ => if isThis f then (if s.canRespond p then run (s.dropRequest p) else s) else s.arrive p frame

/-! ### Frames that fail the checks (R165) -/

/-- R165: the refusal a frame meets, or none when the request is to be handed to its owner. -/
def State.frameRefusal (s : State) (p : Port) (frame : List Byte) : Option Code :=
  match readFrame p frame with
  | .badFrame => some .frame
  | .unknownKind => some .unknown
  | .request i =>
    if !permitted i.kind p then some .notPermitted
    else if s.barred p i.kind then some .coreFailed
    else none

/-- R165: a frame that fails a check is executed as a refusal with no other effect. A frame that fails none is no
invalid frame: it goes back to the head of the request buffers and waits for its own row. -/
def State.refuseFrame (s : State) (p : Port) (frame : List Byte) : State :=
  match s.frameRefusal p frame with
  | some c => placeResponse p (headerOf frame).1 (headerOf frame).2 (s.refuse c)
  | none => s.setPort p { s.port p with requests := frame :: (s.port p).requests }

/-- R165: the turn of a frame that fails the PIU's checks. -/
def refusalTurn (p : Port) (frame : List Byte) (s : State) : State :=
  takeTurn p frame (fun f => f = frame) (fun t => t.refuseFrame p frame) s

/-- The execution step of a request row: its turn on its port, the checks, its owner's act and the response; then the
NOTICE lines follow the step (R173). A request that is not well formed is the bytes it would be sent as, which fail
the PIU's checks. -/
def requestStep (i : Instr) (act : State → Reply) (s : State) : State :=
  settle s <|
    if i.wellFormed then
      takeTurn i.via.port i.frame (fun f => readFrame i.via.port f = .request i)
        (fun t => placeResponse i.via.port i.kind i.via.crc (serve i.via.port i.kind act t)) s
    else refusalTurn i.via.port i.frame s

/-! ### Device-state checks -/

/-- Requests served in RUN alone: NOT-RUNNING in CONFIG, POWER in DRAIN and DRAINED. -/
def State.whileRun (s : State) (k : Reply) : Reply :=
  match s.device with
  | .config => s.refuse .notRunning
  | .run => k
  | .drain => s.refuse .power
  | .drained => s.refuse .power

/-- Requests served in RUN and DRAIN: NOT-RUNNING in CONFIG, POWER in DRAINED. -/
def State.whileRunOrDrain (s : State) (k : Reply) : Reply :=
  match s.device with
  | .config => s.refuse .notRunning
  | .run => k
  | .drain => k
  | .drained => s.refuse .power

/-- Requests served in CONFIG and RUN: POWER in DRAIN and DRAINED. -/
def State.beforeDrain (s : State) (k : Reply) : Reply :=
  match s.device with
  | .config => k
  | .run => k
  | .drain => s.refuse .power
  | .drained => s.refuse .power

/-- Requests served in CONFIG, RUN and DRAIN: POWER in DRAINED. -/
def State.untilDrained (s : State) (k : Reply) : Reply :=
  match s.device with
  | .config => k
  | .run => k
  | .drain => k
  | .drained => s.refuse .power

/-- R176: configuration requests other than SET LIMITS and RESTART: STATE in RUN, POWER in DRAIN and DRAINED. -/
def State.whileConfig (s : State) (k : Reply) : Reply :=
  match s.device with
  | .config => k
  | .run => s.refuse .state
  | .drain => s.refuse .power
  | .drained => s.refuse .power

/-! ### The meanings of the link's commands -/

/-- REQUEST_FRAME_ARRIVAL (R164). -/
def execRequestFrameArrival (p : Port) (frame : List Byte) (s : State) : Host.Outcome State Fault Refusal :=
  .next (s.arrive p frame)

/-- INVALID_FRAME (R165, R166, R128). -/
def execInvalidFrame (p : Port) (frame : List Byte) (s : State) : Host.Outcome State Fault Refusal :=
  .next (settle s (refusalTurn p frame s))

/-- R168: a read of n bytes of the oldest response. A whole read empties the buffer; a shorter one leaves the response,
and the next read starts again from its first byte; a read with no response returns nothing. -/
def State.readResponse (s : State) (p : Port) (n : Nat) : State :=
  match (s.port p).responses with
  | [] => s.setLink p (.read [])
  | r :: rest =>
    if r.length ≤ n then s.setPort p { s.port p with responses := rest, link := .read r }
    else s.setLink p (.read (r.take n))

/-- RESPONSE_READ (R168). The oldest waiting request may then be executed, by its own row. -/
def execResponseRead (p : Port) (n : Nat) (s : State) : Host.Outcome State Fault Refusal := .next (s.readResponse p n)

/-- R169: the port's buffers are emptied; its event queue, events-lost flag, NOTICE mode and line are kept. -/
def State.resetPort (s : State) (p : Port) : State :=
  s.setPort p { s.port p with requests := [], responses := [], link := .quiet }

/-- PORT_RESET (R169). -/
def execPortReset (p : Port) (s : State) : Host.Outcome State Fault Refusal := .next (s.resetPort p)

/-- NOTICE_PULSE_END (R173): the pulse on the port's line ends. -/
def execNoticePulseEnd (p : Port) (s : State) : Host.Outcome State Fault Refusal :=
  .next (s.setPort p { s.port p with pulse := false })

/-! ### COLLECT and SET NOTICE -/

/-- R172 steps 1 and 2: the oldest n events leave the port's queue, and its events-lost flag is cleared. -/
def State.takeEvents (s : State) (p : Port) (n : Nat) : State :=
  s.setPort p { s.port p with events := (s.port p).events.drop n, lost := false }

/-- The COLLECT response payload (R188). -/
def collectPayload (moved : List Event) (lost : Bool) (length : Nat) : List Byte :=
  one moved.length ++ yes lost ++ two length ++ moved.flatMap Event.bytes

/-- COLLECT's owner (R172). -/
def collectAct (p : Port) (count : Byte) (s : State) : Reply :=
  let n := count.toNat
  if n < 1 || 15 < n then s.refuse .range
  else
    let t := (s.takeEvents p n).placeReports p
    ⟨.ok, collectPayload ((s.port p).events.take n) (s.port p).lost (t.port p).events.length, t⟩

/-- COLLECT. -/
def execCollect (v : Via) (count : Byte) (s : State) : Host.Outcome State Fault Refusal :=
  .next (requestStep (.collect v count) (collectAct v.port count) s)

/-- R174: a port's NOTICE mode is set. A change of mode ends a running pulse and starts none. -/
def State.setNoticeMode (s : State) (p : Port) (m : NoticeMode) : State :=
  if (s.port p).mode = m then s else s.setPort p { s.port p with mode := m, pulse := false }

/-- SET NOTICE's owner (R174). -/
def setNoticeAct (p : Port) (mode : Byte) (s : State) : Reply :=
  s.untilDrained <|
    match noticeModeOf mode with
    | none => s.refuse .range
    | some m => ⟨.ok, [], s.setNoticeMode p m⟩

/-- SET_NOTICE. -/
def execSetNotice (v : Via) (mode : Byte) (s : State) : Host.Outcome State Fault Refusal :=
  .next (requestStep (.setNotice v mode) (setNoticeAct v.port mode) s)

end Sys2Proof.Machine
end

