-- ==== Sys2Proof/Machine/Dispatches.lean ====
section
/-! DEFINITION. The mapping cores' work requests: SUPPLY (section 4.3), TAKE BATCH (section 5.3) and BATCH RESULT
(sections 5.4, 5.5, 6.2). -/

namespace Sys2Proof.Machine

/-! ### SUPPLY -/

/-- R75: the first check that a SUPPLY entry for segment g fails on port p. -/
def State.supplyRefusal (s : State) (p : Port) (g : Seg) : Option Code :=
  if !s.hasSegment g then some .range
  else if (s.die g.die).assigned = none || (s.die g.die).assigned ≠ portCore p then some .notPermitted
  else if (s.segment g).state ≠ .untracked then some .state
  else if Config.freeQueue ≤ (s.die g.die).freeQueue.length then some .full
  else none

/-- R75: segment g becomes FREE at the tail of its die's free queue. -/
def State.addFree (s : State) (g : Seg) : State :=
  let die := s.die g.die
  (s.setSegment g { Segment.powerOn with state := .free }).setDie g.die { die with freeQueue := die.freeQueue ++ [g.block] }

/-- R75, R76: a taken entry, and what follows it before the next entry is handled. -/
def State.supplyEntry (s : State) (g : Seg) : State := ((s.addFree g).clearSupplyLow g.die).supplyArbiter g.die

/-- R75: the entries in request order, each against the state left by those before it; the outcomes in order. -/
def State.supplyEntries (p : Port) : List SegmentName → State → List Code × State
  | [], s => ([], s)
  | e :: es, s =>
    match s.supplyRefusal p (segOf e) with
    | some c =>
      let (cs, t) := State.supplyEntries p es s
      (c :: cs, t)
    | none =>
      let (cs, t) := State.supplyEntries p es (s.supplyEntry (segOf e))
      (.ok :: cs, t)

/-- The response to a list of entries: the number taken, then the outcome of each (R74, R181). -/
def outcomesPayload (cs : List Code) : List Byte :=
  two (cs.filter (· = .ok)).length ++ listOf (fun c => [c.byte]) cs

/-- SUPPLY's owner (R74 to R76). -/
def supplyAct (p : Port) (entries : List SegmentName) (s : State) : Reply :=
  s.untilDrained <|
    if !s.control.locked then s.refuse .state
    else if entries.length < 1 || 16 < entries.length then s.refuse .range
    else
      let (cs, t) := State.supplyEntries p entries s
      ⟨.ok, outcomesPayload cs, t⟩

/-- SUPPLY. -/
def execSupply (v : Via) (entries : List SegmentName) (s : State) : Host.Outcome State Fault Refusal :=
  .next (requestStep (.supply v entries) (supplyAct v.port entries) s)

/-! ### TAKE BATCH -/

/-- R101: the batch of slot n at the head of core c's queue becomes TAKEN. -/
def State.take (s : State) (c : Core) (n : Nat) (b : Batch) (deadline : Word) : State :=
  { s with queues := s.queues.put (.core c) (s.queues.at (.core c)).tail }.setSlot n
    { s.slot n with batch := some { b with phase := .taken deadline, place := .core c, overdue := false } }

/-- R101: the deadline given to a batch taken now. -/
def State.newDeadline (s : State) : Word := s.tick + BitVec.ofNat 32 s.limits.batchDeadline

/-- R101: core c's plain TAKE BATCH. An empty queue answers OK with no batch. -/
def State.takeNext (s : State) (c : Core) : Reply :=
  match s.queues.at (.core c) with
  | [] => ⟨.ok, [], s⟩
  | n :: _ =>
    match (s.slot n).batch with
    | none => ⟨.ok, [], s⟩
    | some b => ⟨.ok, batchRecord n (s.slot n).gen s.newDeadline b, s.take c n b s.newDeadline⟩

/-- TAKE BATCH's owner, plain form (R100, R101). No port but a mapping core's passes the permission check. -/
def takeBatchAct (p : Port) (s : State) : Reply :=
  s.whileRunOrDrain <|
    match portCore p with
    | some c => s.takeNext c
    | none => s.refuse .notPermitted

/-- TAKE_BATCH. -/
def execTakeBatch (v : Via) (s : State) : Host.Outcome State Fault Refusal :=
  .next (requestStep (.takeBatch v) (takeBatchAct v.port) s)

/-- R102, R103: the batch TAKEN by the core of port p that a ticket names, with its deadline. -/
def State.heldBatch (s : State) (p : Port) (slot : Nat) (gen : Byte) : Option (Batch × Word) :=
  match (s.slot slot).batch with
  | none => none
  | some b =>
    match b.phase, b.place, portCore p with
    | .taken d, .core k, some c => if (s.slot slot).gen = gen && k = c then some (b, d) else none
    | .taken _, .core _, none => none
    | .taken _, .parked, _ => none
    | .queued, _, _ => none

/-- TAKE BATCH's owner, repeat form (R100, R102). -/
def takeBatchRepeatAct (p : Port) (slot : Half) (gen : Byte) (s : State) : Reply :=
  s.whileRunOrDrain <|
    if 511 < slot.toNat then s.refuse .range
    else
      match s.heldBatch p slot.toNat gen with
      | some (b, d) => ⟨.ok, batchRecord slot.toNat gen d b, s⟩
      | none => s.refuse .stale

/-- TAKE_BATCH_REPEAT. -/
def execTakeBatchRepeat (v : Via) (slot : Half) (gen : Byte) (s : State) : Host.Outcome State Fault Refusal :=
  .next (requestStep (.takeBatchRepeat v slot gen) (takeBatchRepeatAct v.port slot gen) s)

/-! ### BATCH RESULT -/

/-- The checks of R103, with k for a result that passes them all. -/
def State.onResult (s : State) (p : Port) (slot : Half) (gen result : Byte) (k : Batch → Reply) : Reply :=
  s.whileRunOrDrain <|
    if 511 < slot.toNat || 1 < result.toNat then s.refuse .range
    else
      match s.heldBatch p slot.toNat gen with
      | none => s.refuse .stale
      | some (b, _) => if b.unit = (s.segment b.seg).doneUnits then k b else s.refuse .order

/-- R110: the response to an accepted DONE. -/
def donePayload (b : Batch) (t : State) (retired : Nat) : List Byte :=
  segField b.seg ++ two b.unit ++ two (t.segment b.seg).doneUnits ++ one (t.segment b.seg).state.number ++
    two (t.stream b.stream).inFlight ++ two retired

/-- BATCH RESULT's owner for DONE (R103, R106 to R110). -/
def batchResultDoneAct (p : Port) (slot : Half) (gen : Byte) (s : State) : Reply :=
  s.onResult p slot gen 0 fun b =>
    let (t, retired) := s.done b slot.toNat
    ⟨.ok, donePayload b t retired, t⟩

/-- BATCH_RESULT_DONE. -/
def execBatchResultDone (v : Via) (slot : Half) (gen : Byte) (s : State) : Host.Outcome State Fault Refusal :=
  .next (requestStep (.batchResultDone v slot gen) (batchResultDoneAct v.port slot gen) s)

/-- R119: the tickets of the batches withdrawn with batch b of slot k, in unit order. -/
def State.withdrawnTickets (s : State) (b : Batch) (k : Nat) : List (Nat × Byte) :=
  ((s.flightInOrder b.stream).filter (· ≠ k)).map fun n => (n, (s.slot n).gen)

/-- R119: the response to an accepted FAILED result. -/
def failedPayload (b : Batch) (withdrawn : List (Nat × Byte)) (t : State) : List Byte :=
  segField b.seg ++ two b.unit ++ listOf (fun c => ticketField c.1 c.2) withdrawn ++ two (t.stream b.stream).failures ++
    one (t.stream b.stream).state.number

/-- BATCH RESULT's owner for FAILED, or for a result that is neither (R103, R114 to R119). -/
def batchResultFailedAct (p : Port) (slot : Half) (gen result : Byte) (s : State) : Reply :=
  s.onResult p slot gen result fun b =>
    let t := s.fail b
    ⟨.ok, failedPayload b (s.withdrawnTickets b slot.toNat) t, t⟩

/-- BATCH_RESULT_FAILED. -/
def execBatchResultFailed (v : Via) (slot : Half) (gen result : Byte) (s : State) : Host.Outcome State Fault Refusal :=
  .next (requestStep (.batchResultFailed v slot gen result) (batchResultFailedAct v.port slot gen result) s)

end Sys2Proof.Machine
end

