-- ==== Sys2Proof/Machine/Configuration.lean ====
section
/-! DEFINITION. Device Control: the configuration requests (Chapter 10), power-on reset, POWER-FAIL (section 8.4), the
ms tick and the expiries it brings. -/

namespace Sys2Proof.Machine

/-! ### Geometry (section 10.1) -/

/-- R178: the bounds of a geometry. -/
def Geometry.inBounds (g : Geometry) : Bool :=
  1 ≤ g.dies && g.dies ≤ 64 && 16 ≤ g.blocks && g.blocks ≤ 4096 && g.dies * g.blocks ≤ 65536 &&
    16 ≤ g.units && g.units ≤ 1024 && 4 ≤ g.sectors && g.sectors ≤ 64 && g.units * g.sectors ≤ 65535

/-- R178: a die whose configured and assigned cores are set to none. -/
def Die.withoutCore (d : Die) : Die := { d with configured := none, assigned := none }

/-- R178: die d loses its cores when it lies at or above D. -/
def State.dropCore (s : State) (d : Nat) : State :=
  if s.geo.dies ≤ d then s.setDie d (s.die d).withoutCore else s

/-- R178: the geometry is replaced as a whole. -/
def State.applyGeometry (s : State) (g : Geometry) : State :=
  (List.range Config.dies).foldl State.dropCore (s.setControl { s.control with geometry := some g })

/-- SET GEOMETRY's owner (R176, R178). -/
def setGeometryAct (dies : Byte) (blocks units : Half) (sectors : Byte) (s : State) : Reply :=
  s.whileConfig <|
    let g : Geometry := ⟨dies.toNat, blocks.toNat, units.toNat, sectors.toNat⟩
    if s.control.locked then s.refuse .locked
    else if !g.inBounds then s.refuse .range
    else ⟨.ok, two g.capacity, s.applyGeometry g⟩

/-- SET_GEOMETRY. -/
def execSetGeometry (v : Via) (dies : Byte) (blocks units : Half) (sectors : Byte) (s : State) :
    Host.Outcome State Fault Refusal :=
  .next (requestStep (.setGeometry v dies blocks units sectors) (setGeometryAct dies blocks units sectors) s)

/-- LOCK GEOMETRY's owner (R176, R178). -/
def lockGeometryAct (s : State) : Reply :=
  s.whileConfig <|
    if s.control.geometry = none then s.refuse .state
    else ⟨.ok, [], s.setControl { s.control with locked := true }⟩

/-- LOCK_GEOMETRY. -/
def execLockGeometry (v : Via) (s : State) : Host.Outcome State Fault Refusal :=
  .next (requestStep (.lockGeometry v) lockGeometryAct s)

/-! ### Limits (section 10.2) -/

/-- R179: the value stored for a limit. A high-water value above H is stored as H. -/
def Limits.stored (l : Limits) (name : LimitName) (value : Nat) : Nat :=
  match name with
  | .highWater => min value l.holdUp
  | .holdUp | .reclaimHeld | .reclaimRecords | .dieInFlight | .reclaimTimeout | .batchDeadline | .overdue
  | .failureLimit | .lowWater => value

/-- R179: a stored value. A value of H below the stored HW lowers HW with it. -/
def Limits.store (l : Limits) (name : LimitName) (value : Nat) : Limits :=
  match name with
  | .holdUp => { l with holdUp := value, highWater := min l.highWater value }
  | .reclaimHeld => { l with reclaimHeld := value }
  | .reclaimRecords => { l with reclaimRecords := value }
  | .dieInFlight => { l with dieInFlight := value }
  | .reclaimTimeout => { l with reclaimTimeout := value }
  | .highWater => { l with highWater := value }
  | .batchDeadline => { l with batchDeadline := value }
  | .overdue => { l with overdue := if value = 0 then .report else .takeover }
  | .failureLimit => { l with failureLimit := value }
  | .lowWater => { l with lowWater := value }

/-- The width of a limit's value in a response: the overdue mode has 1 byte, every other 2 (Table 11-8). -/
def LimitName.field (name : LimitName) (value : Nat) : List Byte :=
  match name with
  | .overdue => one value
  | .holdUp | .reclaimHeld | .reclaimRecords | .dieInFlight | .reclaimTimeout | .highWater | .batchDeadline
  | .failureLimit | .lowWater => two value

/-- R179: the value lies in the limit's range (Table 10-2). -/
def LimitName.admits (name : LimitName) (value : Nat) : Bool := name.range.1 ≤ value && value ≤ name.range.2

/-- SET LIMITS's owner (R176, R179). -/
def setLimitsAct (selector : Byte) (value : Half) (s : State) : Reply :=
  s.beforeDrain <|
    match limitOf selector with
    | none => s.refuse .range
    | some name =>
      if !name.admits value.toNat then s.refuse .range
      else if s.device = .run && name.configOnly then s.refuse .state
      else if name = .holdUp && value.toNat < s.reserves none then s.refuse .range
      else
        let stored := s.limits.stored name value.toNat
        ⟨.ok, name.field stored, s.setControl { s.control with limits := s.limits.store name stored }⟩

/-- SET_LIMITS. -/
def execSetLimits (v : Via) (selector : Byte) (value : Half) (s : State) : Host.Outcome State Fault Refusal :=
  .next (requestStep (.setLimits v selector value) (setLimitsAct selector value) s)

/-! ### Dies and loaded segments (section 10.3) -/

/-- R180: die d's configured and assigned cores are set to the value its byte names. -/
def State.assignDie (cores : List Byte) (s : State) (d : Nat) : State :=
  let c := (dieCoreOf (cores.getD d 0xFF)).getD none
  s.setDie d { s.die d with configured := c, assigned := c }

/-- R180: a die at or above D is given a core. -/
def State.mapsBeyond (s : State) (cores : List Byte) : Bool :=
  (cores.drop s.geo.dies).any fun b => dieCoreOf b ≠ some none

/-- SET DIE MAP's owner (R176, R180). A byte that is no core value is RANGE at the range check (R186). -/
def setDieMapAct (cores : List Byte) (s : State) : Reply :=
  s.whileConfig <|
    if s.control.geometry = none then s.refuse .state
    else if (cores.any fun b => dieCoreOf b = none) || s.mapsBeyond cores then s.refuse .range
    else ⟨.ok, [], (List.range Config.dies).foldl (State.assignDie cores) s⟩

/-- SET_DIE_MAP. -/
def execSetDieMap (v : Via) (cores : List Byte) (s : State) : Host.Outcome State Fault Refusal :=
  .next (requestStep (.setDieMap v cores) (setDieMapAct cores) s)

/-- R71: the entry that a written LOAD SEGMENT entry gives its segment. Flags: bit 0 SHORT, bit 1 F, bit 2 N (R186). That
bits 3 to 7 of the flags byte are ignored is the model's choice (DESIGN CHOICE, log entry 38). -/
def loadedSegment (e : LoadEntry) (cls : SegmentClass) (units : Nat) (counter : Word) : Segment :=
  { state := .closed, owner := none, cls := cls, nextUnit := units, doneUnits := units, written := e.valid.toNat,
    valid := e.valid.toNat, closeSeq := counter - e.age, short := e.flags.getLsbD 0, failed := e.flags.getLsbD 1,
    suspect := e.flags.getLsbD 2 }

/-- The segment a LOAD SEGMENT entry names. -/
def loadSeg (e : LoadEntry) : Seg := ⟨e.die.toNat, e.block.toNat⟩

/-- R181: a written entry: its outcome, and the state it leaves. -/
def State.loadWritten (s : State) (e : LoadEntry) : Code × State :=
  match segmentClassOf e.cls with
  | none => (.range, s)
  | some cls =>
    if !s.hasSegment (loadSeg e) || s.geo.capacity < e.valid.toNat then (.range, s)
    else if (s.segment (loadSeg e)).state ≠ .untracked then (.state, s)
    else (.ok, s.setSegment (loadSeg e) (loadedSegment e cls s.geo.units s.closeSeq))

/-- R181: a retired entry. -/
def State.loadRetired (s : State) (e : LoadEntry) : Code × State :=
  if !s.hasSegment (loadSeg e) then (.range, s)
  else
    match (s.segment (loadSeg e)).state with
    | .untracked => (.ok, s.setSegment (loadSeg e) { Segment.powerOn with state := .retired })
    | .retired => (.ok, s)
    | .free => (.state, s)
    | .opened => (.state, s)
    | .filled => (.state, s)
    | .closed => (.state, s)
    | .victim => (.state, s)

/-- R181, R186: one entry. An entry-kind byte other than 0 or 1 refuses it RANGE. -/
def State.loadEntry (s : State) (e : LoadEntry) : Code × State :=
  if e.kind = 0 then s.loadWritten e else if e.kind = 1 then s.loadRetired e else (.range, s)

/-- R181: the entries in request order, each against the state left by those before it. -/
def State.loadEntries : List LoadEntry → State → List Code × State
  | [], s => ([], s)
  | e :: es, s =>
    let (c, t) := s.loadEntry e
    let (cs, t) := State.loadEntries es t
    (c :: cs, t)

/-- LOAD SEGMENT's owner (R176, R181). -/
def loadSegmentAct (entries : List LoadEntry) (s : State) : Reply :=
  s.whileConfig <|
    if !s.control.locked then s.refuse .state
    else if entries.length < 1 || 16 < entries.length then s.refuse .range
    else
      let (cs, t) := State.loadEntries entries s
      ⟨.ok, outcomesPayload cs, t⟩

/-- LOAD_SEGMENT. -/
def execLoadSegment (v : Via) (entries : List LoadEntry) (s : State) : Host.Outcome State Fault Refusal :=
  .next (requestStep (.loadSegment v entries) (loadSegmentAct entries) s)

/-! ### START and RESTART (section 10.4) -/

/-- R180: the die map is complete. While the geometry is invalid it is not (log entry 35). -/
def State.mapComplete (s : State) : Bool :=
  s.control.geometry.isSome && (List.range s.geo.dies).all fun d => (s.die d).configured.isSome

/-- START's owner (R176, R182). -/
def startAct (s : State) : Reply :=
  s.whileConfig <|
    if !s.control.locked || !s.mapComplete then s.refuse .state
    else ⟨.ok, [], s.setControl { s.control with device := .run }⟩

/-- START. -/
def execStart (v : Via) (s : State) : Host.Outcome State Fault Refusal := .next (requestStep (.start v) startAct s)

/-- R4: a function record after RESTART. -/
def Function.restart (fn : Function) : Function :=
  { Function.powerOn with
    state := if fn.state = .fenced then .enabled else fn.state, reserve := fn.reserve, cap := fn.cap,
    timeout := fn.timeout }

/-- R70: a segment entry after RESTART. A RETIRED entry keeps every field. -/
def Segment.restart (e : Segment) : Segment := if e.state = .retired then e else .powerOn

/-- R72: a die record after RESTART. -/
def Die.restart (d : Die) : Die := { Die.powerOn with configured := d.configured, assigned := d.configured }

/-- R95: a slot after RESTART. -/
def Slot.restart (k : Slot) : Slot := if k.batch.isSome then { gen := k.gen + 1, batch := none } else k

/-- R163, R173: a port after RESTART. It ends a running pulse (log entry 17). -/
def PortState.restart (p : PortState) : PortState := { p with events := [], lost := false, pulse := false }

/-- R183: every block takes its RESTART values. The geometry, lock, limits, tick and POWER-FAIL input are kept. -/
def State.restart (s : State) : State :=
  let functions := Table.mapEntries .powerOn Function.restart s.functions
  { State.reset with
    control := { s.control with device := .config }
    functions := functions
    budget := { total := 0, unused := (functions.map fun c => c.2.term).sum, reclaimHeld := 0, reclaimWait := .none }
    segments := Table.mapEntries .powerOn Segment.restart s.segments
    dies := Table.mapEntries .powerOn Die.restart s.dies
    slots := Table.mapEntries .powerOn Slot.restart s.slots
    ports := { fp := s.ports.fp.restart, mp0 := s.ports.mp0.restart, mp1 := s.ports.mp1.restart,
               rp := s.ports.rp.restart }
    pending := s.pending }

/-- RESTART's owner (R176, R183). -/
def restartAct (s : State) : Reply := s.beforeDrain ⟨.ok, [], s.restart⟩

/-- RESTART. -/
def execRestart (v : Via) (s : State) : Host.Outcome State Fault Refusal := .next (requestStep (.restart v) restartAct s)

/-! ### Power-on reset and POWER-FAIL (R176, R158) -/

/-- R176: every block takes its power-on values. The POWER-FAIL input and the queue of commands are outside the part. -/
def State.powerOnReset (s : State) : State :=
  { State.reset with control := { Control.powerOn with powerFail := s.control.powerFail }, pending := s.pending }

/-- POWER_ON_RESET (R176). With POWER-FAIL asserted as it ends, an assertion in CONFIG follows (R158). -/
def execPowerOnReset (s : State) : Host.Outcome State Fault Refusal :=
  .next (if s.control.powerFail then s.powerOnReset.completeDrain 0 else s.powerOnReset)

/-- The open streams, ascending. -/
def State.openStreams (s : State) : List Nat := (Table.indices s.streams).filter fun i => (s.stream i).state ≠ .free

/-- R158: an assertion in RUN starts the drain. -/
def State.startDrain (s : State) : State :=
  (s.openStreams.foldl State.markAndTest (s.setControl { s.control with device := .drain })).drainTest

/-- R158: an assertion, by the device state. -/
def State.powerFails (s : State) : State :=
  match s.device with
  | .config => s.completeDrain 0
  | .run => s.startDrain
  | .drain => s
  | .drained => s

/-- R158: the POWER-FAIL input as sampled. -/
def State.setPowerFail (s : State) (b : Bool) : State := s.setControl { s.control with powerFail := b }

/-- POWER_FAIL_ASSERTION (R158). An input already asserted does not change, so nothing follows. -/
def execPowerFailAssertion (s : State) : Host.Outcome State Fault Refusal :=
  .next (if s.control.powerFail then s else settle s (s.setPowerFail true).powerFails)

/-- POWER_FAIL_DEASSERTION (R158): it changes nothing but the input itself. -/
def execPowerFailDeassertion (s : State) : Host.Outcome State Fault Refusal := .next (s.setPowerFail false)

/-! ### The ms tick and what expires at it (R177) -/

/-- MS_TICK (R177). The expiries it brings are commands of their own. -/
def execMsTick (s : State) : Host.Outcome State Fault Refusal :=
  .next (s.setControl { s.control with tick := s.control.tick + 1 })

/-- R67: the armed seal of stream i expires, once its deadline has been reached (log entry 2). -/
def State.expireSeal (s : State) (i : Nat) : State :=
  match (s.stream i).sealing with
  | .armed deadline =>
    if passed s.tick deadline then (s.setStream i { s.stream i with sealing := .pending }).test i else s
  | .disarmed => s
  | .pending => s

/-- SEAL_EXPIRY (R67). -/
def execSealExpiry (i : Nat) (s : State) : Host.Outcome State Fault Refusal := .next (settle s (s.expireSeal i))

/-- R122: the deadline of the TAKEN batch in slot k expires, once it has been reached and while the batch's
overdue-reported mark is clear (log entry 2). -/
def State.expireDeadline (s : State) (k : Nat) : State :=
  match (s.slot k).batch with
  | none => s
  | some b =>
    match b.phase, b.place with
    | .taken deadline, .core c => if passed s.tick deadline && !b.overdue then s.expireBatch k b c else s
    | .taken _, .parked => s
    | .queued, _ => s

/-- BATCH_DEADLINE_EXPIRY (R122 to R127). -/
def execBatchDeadlineExpiry (k : Nat) (s : State) : Host.Outcome State Fault Refusal :=
  .next (settle s (s.expireDeadline k))

end Sys2Proof.Machine
end

