-- ==== Sys2Proof/Machine/Consequences.lean ====
section
/-! DEFINITION. The steps that complete what earlier steps started. Inside another step the same operation is called
in its place; here each stands as a command of its own. Where nothing is ready to complete, nothing changes. -/

namespace Sys2Proof.Machine

/-- R55, R171: completion c is reported when its port's queue has a free entry and no older completion waits for it. -/
def State.reportReady (s : State) (c : Completion) : Bool :=
  s.hasRoom (s.reportPort c) && s.oldestReport (s.reportPort c) = some c

/-- R55, R171: one completion is reported, if it may be. -/
def State.tryReport (s : State) (c : Completion) : State := if s.reportReady c then s.report c else s

/-- FRAGMENT_DONE (R55): a PENDING-REPORT record is reported. -/
def execFragmentDone (r : Nat) (s : State) : Host.Outcome State Fault Refusal :=
  .next (settle s (s.tryReport (.fragment r)))

/-- FLUSH_DONE (R150): a completed flush is reported. -/
def execFlushDone (f : Nat) (s : State) : Host.Outcome State Fault Refusal := .next (settle s (s.tryReport (.flush f)))

/-- STREAM_CLOSED (R18): the close of a stream completes when its conditions hold. -/
def execStreamClosed (i : Nat) (s : State) : Host.Outcome State Fault Refusal := .next (settle s (s.closeTest i))

/-- FENCE_COMPLETE (R156): the fence of a function completes when nothing of it is outstanding. -/
def execFenceComplete (f : Nat) (s : State) : Host.Outcome State Fault Refusal := .next (settle s (s.fenceTest f))

/-- DRAIN_COMPLETE (R160): the drain completes when every CHAINED record belongs to a HALTED stream. -/
def execDrainComplete (s : State) : Host.Outcome State Fault Refusal := .next (settle s s.drainTest)

/-- DIE_SLOT_GRANT (R59): a die's slot arbiter acts. -/
def execDieSlotGrant (d : Nat) (s : State) : Host.Outcome State Fault Refusal := .next (settle s (s.slotArbiter d))

/-- WAIT_SUPPLY_SERVE (R85): the WAIT-SUPPLY arbiter serves a die. -/
def execWaitSupplyServe (d : Nat) (s : State) : Host.Outcome State Fault Refusal := .next (settle s (s.supplyArbiter d))

end Sys2Proof.Machine
end

