-- ==== Sys2Proof/Machine/Writes.lean ====
section
/-! DEFINITION. The front-end requests: SUBMIT (sections 2.2, 2.3) and FLUSH FUNCTION (section 8.1). -/

namespace Sys2Proof.Machine

/-! ### The checks of SUBMIT (Table 2-3) -/

/-- R30: steps 6 to 8, on the stream that step 5 resolved. -/
def Stream.intakeRefusal (st : Stream) : Option Code :=
  match st.state with
  | .halted => some .halted
  | .draining => some .closing
  | .free | .idle | .active | .waitSupply => if st.intake = .hold then some .holdStream else none

/-- R46: the FREE record with the lowest number. -/
def State.freeRecordNumber (s : State) : Option Nat :=
  lowestFrom (fun r => (s.record r).condition = .free) Config.records 0

/-- R31: the record a write may take; none when its partition's limit is reached. -/
def State.recordFor (s : State) (cls : StreamClass) : Option Nat :=
  let full : Bool := match cls with
    | .tenant => Config.records - s.limits.reclaimRecords ≤ s.tenantInUse
    | .reclaim => s.limits.reclaimRecords ≤ s.reclaimInUse
  if full then none else s.freeRecordNumber

/-- R32: the cap test and the budget test of a write of n sectors from function f. -/
def State.budgetTest (s : State) (f n : Nat) : Bool :=
  let fn := s.function f
  fn.held + n ≤ fn.cap && s.budget.total + n + s.budget.unused ≤ s.limits.holdUp + fn.spare

/-- R33: the one test of a RECLAIM write of n sectors. -/
def State.reclaimTest (s : State) (n : Nat) : Bool := s.budget.reclaimHeld + n ≤ s.limits.reclaimHeld

/-- R34: a refusal for records or budget sets the wait state of a function. -/
def State.setWait (s : State) (f : Nat) (w : Wait) : State := s.setFunction f { s.function f with wait := w }

/-- R34: the same for the reclaim port. -/
def State.setReclaimWait (s : State) (w : Wait) : State := s.setBudget { s.budget with reclaimWait := w }

/-- R29: a write refused FENCED is counted, up to 65,535. -/
def State.countViolation (s : State) (f : Nat) : State :=
  s.setFunction f { s.function f with violations := min ((s.function f).violations + 1) 65535 }

/-! ### Admission (R35, R36) -/

/-- What a SUBMIT says of its fragment. -/
structure Write where
  tag    : Word
  lba    : Lba
  region : Byte
  offset : Word
  n      : Nat
  deriving DecidableEq, Repr

/-- R35 items 1 and 2: the budget and the function record take n sectors of function f. -/
def State.takeBudget (s : State) (f n : Nat) : State :=
  let fn := s.function f
  let s := s.setBudget { s.budget with total := s.budget.total + n, unused := s.budget.unused - min n fn.spare }
  s.setFunction f { fn with held := fn.held + n, serial := fn.serial + 1, outstanding := fn.outstanding + 1 }

/-- R35 item 3: the record filled for a write on stream i. -/
def Write.record (w : Write) (i : Nat) (origin : Origin) (tick : Word) : Fragment :=
  { condition := .chained, stream := i, origin := origin, tag := w.tag, lba := w.lba, region := w.region,
    offset := w.offset, sectors := w.n, placed := 0, durable := 0, mark := none, admitted := tick }

/-- R35 item 3, R46, R49: record r becomes CHAINED at the tail of stream i's chain, and its class counts it. -/
def State.chainRecord (s : State) (i r : Nat) (rec : Fragment) : State :=
  let s := match rec.origin with
    | .tenant _ _ => { s with tenantInUse := s.tenantInUse + 1 }
    | .reclaim => { s with reclaimInUse := s.reclaimInUse + 1 }
  let s := s.setRecord r rec
  s.setStream i { s.stream i with chain := (s.stream i).chain ++ [r] }

/-- R35 items 3 and 4, R66: the record joins stream i, the seal is set when the uncut count grew from 0, and the
stream is tested. -/
def State.joinChain (s : State) (i r : Nat) (rec : Fragment) : State :=
  let t := s.chainRecord i r rec
  (if s.uncut i = 0 then t.setSeal i else t).test i

/-! ### The pressure seal (R37) -/

/-- R37: stream i is a candidate. -/
def State.pressureCandidate (s : State) (i : Nat) : Bool :=
  let st := s.stream i
  st.cls = .tenant && st.state ≠ .free && st.state ≠ .halted && 1 ≤ s.uncut i && st.sealing ≠ .pending

/-- R37: the age of stream i's oldest uncut sector. -/
def State.uncutAge (s : State) (i : Nat) : Nat :=
  match s.cutRecord i with
  | some r => (s.tick - (s.record r).admitted).toNat
  | none => 0

/-- R37: of two candidates met in ascending index, the later one is preferred only when it is older. -/
def State.olderCandidate (s : State) (best : Option Nat) (i : Nat) : Option Nat :=
  if s.pressureCandidate i then
    match best with
    | none => some i
    | some b => if s.uncutAge b < s.uncutAge i then some i else some b
  else best

/-- R37: the stream named for a pressure seal. -/
def State.pressureStream (s : State) : Option Nat := (Table.indices s.streams).foldl s.olderCandidate none

/-- R37: the pressure-seal test made at a TENANT admission. -/
def State.pressureSeal (s : State) : State :=
  if s.limits.highWater ≠ 0 && s.limits.highWater ≤ s.budget.total then
    match s.pressureStream with
    | some i => s.markAndTest i
    | none => s
  else s

/-- R35: a write of function f is admitted to stream i in record r. -/
def State.admitTenant (s : State) (f i r : Nat) (w : Write) : State :=
  ((s.takeBudget f w.n).joinChain i r (w.record i (.tenant f (s.function f).serial) s.tick)).pressureSeal

/-- R36: a RECLAIM write is admitted to stream i in record r. -/
def State.admitReclaim (s : State) (i r : Nat) (w : Write) : State :=
  (s.setBudget { s.budget with reclaimHeld := s.budget.reclaimHeld + w.n }).joinChain i r (w.record i .reclaim s.tick)

/-! ### SUBMIT -/

/-- The fields of an ADMITTED response: the stream and the admission serial (R26, R36). -/
def admittedPayload (i : Nat) (serial : Word) : List Byte := two i ++ bytes32 serial

/-- Steps 9 and 10 of a TENANT SUBMIT, and its admission (R31, R32, R34, R35). -/
def State.submitTo (s : State) (f i : Nat) (w : Write) : Reply :=
  match s.recordFor .tenant with
  | none => ⟨.holdRecords, [], s.setWait f (.records w.n)⟩
  | some r =>
    if s.budgetTest f w.n then ⟨.admitted, admittedPayload i (s.function f).serial, s.admitTenant f i r w⟩
    else ⟨.holdBudget, [], s.setWait f (.budget w.n)⟩

/-- Steps 3 to 10 of a SUBMIT on FP (R29, R30). -/
def State.submitTenant (s : State) (f k : Nat) (w : Write) : Reply :=
  match (s.function f).state with
  | .disabled => s.refuse .disabled
  | .fenced => ⟨.fenced, [], s.countViolation f⟩
  | .enabled =>
    match s.binding f k with
    | none => s.refuse .unbound
    | some i =>
      match (s.stream i).intakeRefusal with
      | some c => s.refuse c
      | none => s.submitTo f i w

/-- Steps 9 and 10 of a RECLAIM SUBMIT, and its admission (R31, R33, R34, R36). -/
def State.submitReclaimTo (s : State) (i : Nat) (w : Write) : Reply :=
  match s.recordFor .reclaim with
  | none => ⟨.holdRecords, [], s.setReclaimWait (.records w.n)⟩
  | some r =>
    if s.reclaimTest w.n then ⟨.admitted, admittedPayload i 0, s.admitReclaim i r w⟩
    else ⟨.holdBudget, [], s.setReclaimWait (.budget w.n)⟩

/-- Steps 5 to 10 of a SUBMIT on RP (R29, R30). -/
def State.submitReclaim (s : State) (i : Nat) (w : Write) : Reply :=
  if (s.stream i).state = .free || (s.stream i).cls = .tenant then s.refuse .unbound
  else
    match (s.stream i).intakeRefusal with
    | some c => s.refuse c
    | none => s.submitReclaimTo i w

/-- SUBMIT's owner (R26 to R37). Step 1 refuses in every state but RUN (R28). -/
def submitAct (p : Port) (fn hint : Byte) (stream : Half) (tag : Word) (lba : Lba) (region : Byte) (offset : Word)
    (n : Byte) (s : State) : Reply :=
  s.whileRun <|
    if submitOutOfRange p hint stream lba region offset n then s.refuse .range
    else
      let w : Write := ⟨tag, lba, region, offset, n.toNat⟩
      if p = .rp then s.submitReclaim stream.toNat w else s.submitTenant fn.toNat hint.toNat w

/-- SUBMIT. -/
def execSubmit (v : Via) (fn hint : Byte) (stream : Half) (tag : Word) (lba : Lba) (region : Byte) (offset : Word)
    (n : Byte) (s : State) : Host.Outcome State Fault Refusal :=
  .next (requestStep (.submit v fn hint stream tag lba region offset n)
    (submitAct v.port fn hint stream tag lba region offset n) s)

/-! ### FLUSH FUNCTION -/

/-- The open TENANT streams of function f, ascending. -/
def State.streamsOf (s : State) (f : Nat) : List Nat :=
  (Table.indices s.streams).filter fun i =>
    (s.stream i).state ≠ .free && (s.stream i).cls = .tenant && (s.stream i).owner = f

/-- R149: an accepted flush of function f. -/
def State.startFlush (s : State) (f : Nat) (tag : Word) : State :=
  let is := s.streamsOf f
  let s := s.setFunction f { s.function f with flush := .pending (s.function f).serial tag }
  (is.foldl State.markAndTest s).flushTest f

/-- FLUSH FUNCTION's owner (R149). -/
def flushFunctionAct (fn : Half) (tag : Word) (s : State) : Reply :=
  s.whileRun <|
    let f := fn.toNat
    if 255 < f then s.refuse .range
    else if (s.function f).state = .disabled then s.refuse .disabled
    else if (s.function f).flush ≠ .none then s.refuse .state
    else ⟨.accepted, [], s.startFlush f tag⟩

/-- FLUSH_FUNCTION. -/
def execFlushFunction (v : Via) (fn : Half) (tag : Word) (s : State) : Host.Outcome State Fault Refusal :=
  .next (requestStep (.flushFunction v fn tag) (flushFunctionAct fn tag) s)

end Sys2Proof.Machine
end

