-- ==== Sys2Proof/Machine/Functions.lean ====
section
/-! DEFINITION. The function requests: SET FUNCTION (section 2.5), FENCE FUNCTION and UNFENCE FUNCTION (section 8.2). -/

namespace Sys2Proof.Machine

/-! ### SET FUNCTION -/

/-- R42 step 2: the request would disable a function that cannot be disabled. -/
def Function.cannotDisable (fn : Function) : Bool := fn.state = .fenced || 1 ≤ fn.openStreams || 1 ≤ fn.held

/-- R42 step 3: the sum of the reserves after the request. -/
def State.reservesAfter (s : State) (f : Nat) (enable : Bool) (reserve : Nat) : Nat :=
  s.reserves (some f) + if enable then reserve else 0

/-- R43: the record after an accepted SET FUNCTION. -/
def Function.settings (fn : Function) (enable : Bool) (reserve cap timeout : Nat) : Function :=
  { fn with
    reserve := reserve, cap := cap, timeout := timeout
    state := if enable then (if fn.state = .disabled then .enabled else fn.state) else .disabled
    wait := if enable || fn.state = .disabled then fn.wait else .none }

/-- R43, R40: an accepted SET FUNCTION. -/
def State.applySettings (s : State) (f : Nat) (enable : Bool) (reserve cap timeout : Nat) : State :=
  let fn := s.function f
  let fn' := fn.settings enable reserve cap timeout
  ((s.setFunction f fn').setBudget { s.budget with unused := s.budget.unused + fn'.term - fn.term }).openBudgetWaits

/-- SET FUNCTION's owner (R42, R43). An enable choice that is not in its list is RANGE at step 1 (R186). -/
def setFunctionAct (fn enable : Byte) (reserve cap timeout : Half) (s : State) : Reply :=
  s.beforeDrain <|
    let f := fn.toNat
    match enableOf enable with
    | none => s.refuse .range
    | some en =>
      if s.limits.holdUp < reserve.toNat || s.limits.holdUp < cap.toNat || 2000 < timeout.toNat then s.refuse .range
      else if !en && (s.function f).cannotDisable then s.refuse .state
      else if s.limits.holdUp < s.reservesAfter f en reserve.toNat then s.refuse .range
      else ⟨.ok, [], s.applySettings f en reserve.toNat cap.toNat timeout.toNat⟩

/-- SET_FUNCTION. -/
def execSetFunction (v : Via) (fn enable : Byte) (reserve cap timeout : Half) (s : State) :
    Host.Outcome State Fault Refusal :=
  .next (requestStep (.setFunction v fn enable reserve cap timeout) (setFunctionAct fn enable reserve cap timeout) s)

/-! ### FENCE FUNCTION -/

/-- R86: a stream left with no uncut sectors leaves the WAIT-SUPPLY list, and a WAIT-SUPPLY stream becomes IDLE. -/
def State.leaveSupplyIdle (s : State) (i : Nat) : State :=
  if s.uncut i = 0 then
    let st := s.stream i
    (s.leaveSupply i).setStream i { st with state := if st.state = .waitSupply then .idle else st.state }
  else s

/-- R153: one stream of a function fenced in DISCARD mode. -/
def State.fenceDiscard (s : State) (i : Nat) : State :=
  (((s.discardMarks i (s.fromCut i)).1.leaveSupplyIdle i).retire i).1

/-- R152: the function becomes FENCED with its fence state. -/
def State.fence (s : State) (f : Nat) (m : FenceMode) (p : Port) : State :=
  s.setFunction f { s.function f with state := .fenced, fence := some (m, p) }

/-- R152 to R154, R156: an accepted FENCE FUNCTION. -/
def State.startFence (s : State) (f : Nat) (m : FenceMode) (p : Port) : State :=
  let is := s.streamsOf f
  let s := s.fence f m p
  let s := match m with
    | .discard => is.foldl State.fenceDiscard s
    | .drain => is.foldl State.markAndTest s
  s.fenceTest f

/-- FENCE FUNCTION's owner (R152). -/
def fenceFunctionAct (p : Port) (fn : Half) (mode : Byte) (s : State) : Reply :=
  s.whileRun <|
    let f := fn.toNat
    match fenceModeOf mode with
    | none => s.refuse .range
    | some m =>
      if 255 < f then s.refuse .range
      else if (s.function f).state ≠ .enabled then s.refuse .state
      else ⟨.accepted, [], s.startFence f m p⟩

/-- FENCE_FUNCTION. -/
def execFenceFunction (v : Via) (fn : Half) (mode : Byte) (s : State) : Host.Outcome State Fault Refusal :=
  .next (requestStep (.fenceFunction v fn mode) (fenceFunctionAct v.port fn mode) s)

/-! ### UNFENCE FUNCTION -/

/-- UNFENCE FUNCTION's owner (R157). -/
def unfenceFunctionAct (fn : Half) (s : State) : Reply :=
  s.whileRun <|
    let f := fn.toNat
    if 255 < f then s.refuse .range
    else if (s.function f).state ≠ .fenced || (s.function f).fence.isSome then s.refuse .state
    else ⟨.ok, [], s.setFunction f { s.function f with state := .enabled }⟩

/-- UNFENCE_FUNCTION. -/
def execUnfenceFunction (v : Via) (fn : Half) (s : State) : Host.Outcome State Fault Refusal :=
  .next (requestStep (.unfenceFunction v fn) (unfenceFunctionAct fn) s)

end Sys2Proof.Machine
end

