-- ==== Sys2Proof/Machine/Occupancy.lean ====
section
/-! DEFINITION. The Occupancy and Nomination Unit: INVALIDATE, NOMINATE and the requests on victims (Chapter 7). -/

namespace Sys2Proof.Machine

/-! ### INVALIDATE -/

/-- What an entry of INVALIDATE counts as (R132). -/
inductive Stale where
  | applied | underflow | notTracked
  deriving DecidableEq, Repr

/-- R132: the state counts the segment's valid sectors. -/
def SegmentState.tracked : SegmentState → Bool
  | .opened | .filled | .closed | .victim => true
  | .untracked | .free | .retired => false

/-- R132: an entry of count x on a segment's entry. -/
def Segment.invalidate (e : Segment) (x : Nat) : Segment × Stale :=
  if !e.state.tracked then (e, .notTracked)
  else if x ≤ e.valid then ({ e with valid := e.valid - x }, .applied)
  else ({ e with valid := 0, suspect := true }, .underflow)

/-- The segment an INVALIDATE entry names. -/
def staleSeg (e : StaleEntry) : Seg := ⟨e.die.toNat, e.block.toNat⟩

/-- R131: the entry refuses the whole request. -/
def State.badStale (s : State) (e : StaleEntry) : Bool := !s.hasSegment (staleSeg e) || e.count.toNat = 0

/-- R131: the entries in request order, each against the state left by those before it; what each counts as. -/
def State.invalidateEntries : List StaleEntry → State → List Stale × State
  | [], s => ([], s)
  | e :: es, s =>
    let (v, kind) := (s.segment (staleSeg e)).invalidate e.count.toNat
    let (ks, t) := State.invalidateEntries es (s.setSegment (staleSeg e) v)
    (kind :: ks, t)

/-- R132: the three counts, applied, underflow and not tracked. -/
def staleCounts (ks : List Stale) : List Byte :=
  two (ks.count .applied) ++ two (ks.count .underflow) ++ two (ks.count .notTracked)

/-- INVALIDATE's owner (R131, R132). -/
def invalidateAct (entries : List StaleEntry) (s : State) : Reply :=
  s.whileRunOrDrain <|
    if entries.length < 1 || 32 < entries.length || entries.any s.badStale then s.refuse .range
    else
      let (ks, t) := State.invalidateEntries entries s
      ⟨.ok, staleCounts ks, t⟩

/-- INVALIDATE. -/
def execInvalidate (v : Via) (entries : List StaleEntry) (s : State) : Host.Outcome State Fault Refusal :=
  .next (requestStep (.invalidate v entries) (invalidateAct entries) s)

/-! ### NOMINATE -/

/-- What NOMINATE computes for one candidate (Table 7-1, R136). -/
structure Nominee where
  seg     : Seg
  score   : Nat
  u       : Nat
  v       : Nat
  a       : Nat
  zero    : Bool      -- Z
  clamped : Bool      -- C
  old     : Bool      -- V
  suspect : Bool      -- N
  failed  : Bool      -- F
  deriving DecidableEq, Repr

/-- R135 to R137: the quantities of segment g. -/
def State.nominee (s : State) (policy : Policy) (g : Seg) : Nominee :=
  let e := s.segment g
  let u := utilization s.geo.capacity e.valid
  let age := segmentAge s.closeSeq e.closeSeq
  { seg := g, score := score policy u (clampedAge age), u := u, v := e.valid, a := clampedAge age,
    zero := e.valid = 0, clamped := clampedUse s.geo.capacity e.valid, old := 65535 < age, suspect := e.suspect,
    failed := e.failed }

/-- R138: x is ranked before y. -/
def Nominee.before (x y : Nominee) : Bool :=
  if x.zero ≠ y.zero then x.zero
  else if x.score ≠ y.score then y.score < x.score
  else if x.a ≠ y.a then y.a < x.a
  else if x.seg.die ≠ y.seg.die then x.seg.die < y.seg.die
  else x.seg.block < y.seg.block

/-- Insertion by rank. -/
def Nominee.insert (x : Nominee) : List Nominee → List Nominee
  | [] => [x]
  | y :: t => if x.before y then x :: y :: t else y :: x.insert t

/-- R138: the candidates in rank order. -/
def rank : List Nominee → List Nominee
  | [] => []
  | x :: t => x.insert (rank t)

/-- R140: the segment is a candidate. `scope` is one die, or none for all dies; `filter` a class, or none for any. -/
def State.candidate (s : State) (scope : Option Nat) (filter : Option SegmentClass) (g : Seg) : Bool :=
  (s.segment g).state = .closed && (scope = none || scope = some g.die) && (filter = none || filter = some (s.segment g).cls)

/-- R140: the candidates, ranked. -/
def State.ranking (s : State) (scope : Option Nat) (policy : Policy) (filter : Option SegmentClass) : List Nominee :=
  rank ((((Table.indices s.segments).map s.segOfIndex).filter (s.candidate scope filter)).map (s.nominee policy))

/-- R140: a chosen segment becomes VICTIM. -/
def State.makeVictim (s : State) (n : Nominee) : State := s.setSegment n.seg { s.segment n.seg with state := .victim }

/-- One 12-byte entry of the NOMINATE response (section 11.3). -/
def Nominee.bytes (n : Nominee) : List Byte :=
  segField n.seg ++ two n.score ++ two n.u ++ two n.v ++ two n.a ++
    flagSet [n.zero, n.clamped, n.old, n.suspect, n.failed]

/-- R139: the die a NOMINATE scope names, none for all dies. -/
def scopeOf (scope : Byte) : Option Nat := if scope = 0xFF then none else some scope.toNat

/-- R139: the scope names a die at or above D. -/
def State.badScope (s : State) (scope : Option Nat) : Bool :=
  match scope with
  | some d => s.geo.dies ≤ d
  | none => false

/-- NOMINATE's owner (R139, R140). -/
def nominateAct (scope policy filter count : Byte) (s : State) : Reply :=
  s.whileRun <|
    match policyOf policy, classFilterOf filter with
    | some pol, some cls =>
      if count.toNat < 1 || 8 < count.toNat || s.badScope (scopeOf scope) then s.refuse .range
      else
        let chosen := (s.ranking (scopeOf scope) pol cls).take count.toNat
        ⟨.ok, listOf Nominee.bytes chosen, chosen.foldl State.makeVictim s⟩
    | some _, none => s.refuse .range
    | none, _ => s.refuse .range

/-- NOMINATE. -/
def execNominate (v : Via) (scope policy filter count : Byte) (s : State) : Host.Outcome State Fault Refusal :=
  .next (requestStep (.nominate v scope policy filter count) (nominateAct scope policy filter count) s)

/-! ### RETURN, RELEASE and RETIRE SEGMENT -/

/-- R142: the checks the three requests share. -/
def State.onSegment (s : State) (g : SegmentName) (k : Seg → Reply) : Reply :=
  s.whileRunOrDrain <| if s.hasSegment (segOf g) then k (segOf g) else s.refuse .range

/-- RETURN SEGMENT's owner (R144). -/
def returnSegmentAct (g : SegmentName) (s : State) : Reply :=
  s.onSegment g fun x =>
    if (s.segment x).state = .victim then ⟨.ok, [], s.setSegment x { s.segment x with state := .closed }⟩
    else s.refuse .state

/-- RETURN_SEGMENT. -/
def execReturnSegment (v : Via) (g : SegmentName) (s : State) : Host.Outcome State Fault Refusal :=
  .next (requestStep (.returnSegment v g) (returnSegmentAct g) s)

/-- R145: the response to a release: written, close sequence, N and F as they stood before it. -/
def releasePayload (e : Segment) : List Byte := two e.written ++ bytes32 e.closeSeq ++ flagSet [e.suspect, e.failed]

/-- RELEASE SEGMENT's owner (R145, R146). -/
def releaseSegmentAct (g : SegmentName) (s : State) : Reply :=
  s.onSegment g fun x =>
    let e := s.segment x
    if e.state ≠ .victim then s.refuse .state
    else if e.valid ≠ 0 then ⟨.validRemaining, two e.valid, s⟩
    else ⟨.ok, releasePayload e, (s.setSegment x .powerOn).emitToDie x.die (.segmentReleased x)⟩

/-- RELEASE_SEGMENT. -/
def execReleaseSegment (v : Via) (g : SegmentName) (s : State) : Host.Outcome State Fault Refusal :=
  .next (requestStep (.releaseSegment v g) (releaseSegmentAct g) s)

/-- R147: a segment out of use. -/
def Segment.retired : Segment := { Segment.powerOn with state := .retired }

/-- RETIRE SEGMENT's owner (R147). -/
def retireSegmentAct (g : SegmentName) (s : State) : Reply :=
  s.onSegment g fun x =>
    let e := s.segment x
    match e.state with
    | .opened => s.refuse .state
    | .filled => s.refuse .state
    | .free => s.refuse .state
    | .retired => ⟨.ok, one e.state.number ++ two e.valid, s⟩
    | .untracked => ⟨.ok, one e.state.number ++ two e.valid, s.setSegment x .retired⟩
    | .closed => ⟨.ok, one e.state.number ++ two e.valid, s.setSegment x .retired⟩
    | .victim => ⟨.ok, one e.state.number ++ two e.valid, s.setSegment x .retired⟩

/-- RETIRE_SEGMENT. -/
def execRetireSegment (v : Via) (g : SegmentName) (s : State) : Host.Outcome State Fault Refusal :=
  .next (requestStep (.retireSegment v g) (retireSegmentAct g) s)

end Sys2Proof.Machine
end

