-- ==== Sys2Proof/Machine/Queries.lean ====
section
/-! DEFINITION. The QUERY requests (R22, R45, R93, R94, R184): the reports they give. Fields stand in the order the
rules list them, at the widths of Tables 11-1 and 11-8. -/

namespace Sys2Proof.Machine

/-! ### QUERY STREAM -/

/-- A segment, or absent. -/
def segOrAbsent (g : Option Seg) : List Byte := orAbsent 3 segField g

/-- R50: the sector offset of the cut point within the record that holds it, 0 at the end of the chain. -/
def State.cutOffset (s : State) (i : Nat) : Nat :=
  match s.cutRecord i with
  | some r => (s.record r).placed
  | none => 0

/-- R22: class and owner function. A FREE context reports neither; the owner is that of a TENANT stream alone. -/
def classFields (st : Stream) : List Byte :=
  if st.state = .free then absent 3
  else one st.cls.number ++ (if st.cls = .tenant then two st.owner else absent 2)

/-- R22: the report of stream i. The tag of the head record of an empty chain is sent as absent, all ones: R22 names no
value for it (DESIGN CHOICE, log entry 36). -/
def State.streamReport (s : State) (i : Nat) : List Byte :=
  let st := s.stream i
  one st.state.number ++ classFields st ++ one st.intake.number ++ bytes64 st.mask ++ one st.depth ++
    portField st.requester ++ yes (s.supplyWait i) ++ segOrAbsent st.writePoint ++ segOrAbsent st.finishing ++
    two st.inFlight ++ sealField st.sealing ++ two st.failures ++ four st.padTotal ++ bytes32 st.batchesDone ++
    two st.boundHints ++ two st.chain.length ++ two (s.uncut i) ++
    orAbsent 4 (fun r => bytes32 (s.record r).tag) st.chain.head? ++ two (s.cutOffset i)

/-- QUERY STREAM's owner (R22). -/
def queryStreamAct (stream : Half) (s : State) : Reply :=
  if 1023 < stream.toNat then s.refuse .range else ⟨.ok, s.streamReport stream.toNat, s⟩

/-- QUERY_STREAM. -/
def execQueryStream (v : Via) (stream : Half) (s : State) : Host.Outcome State Fault Refusal :=
  .next (requestStep (.queryStream v stream) (queryStreamAct stream) s)

/-! ### QUERY FUNCTION -/

/-- R45: what both forms also report. -/
def State.budgetReport (s : State) : List Byte :=
  two s.limits.holdUp ++ two s.limits.highWater ++ two s.budget.total ++ two s.budget.unused ++ two s.tenantInUse

/-- R45: the report of function f. A negative headroom is reported as 0. -/
def State.functionReport (s : State) (f : Nat) : List Byte :=
  let fn := s.function f
  one fn.state.number ++ two fn.reserve ++ two fn.cap ++ two fn.timeout ++ two fn.held ++ bytes32 fn.serial ++
    two fn.outstanding ++ two fn.openStreams ++ waitField fn.wait ++ flushField fn.flush ++ fenceField fn.fence ++
    two fn.violations ++ two (s.headroom f).toNat ++ s.budgetReport

/-- R45: the report of the reclaim account. -/
def State.reclaimReport (s : State) : List Byte :=
  two s.budget.reclaimHeld ++ two s.limits.reclaimHeld ++ two s.reclaimInUse ++ two s.limits.reclaimRecords ++
    two (s.limits.reclaimHeld - s.budget.reclaimHeld) ++ two s.openReclaim ++ waitField s.budget.reclaimWait ++
    s.budgetReport

/-- QUERY FUNCTION's owner (R45). FFFFh selects the reclaim account. -/
def queryFunctionAct (fn : Half) (s : State) : Reply :=
  if fn = 0xFFFF then ⟨.ok, s.reclaimReport, s⟩
  else if 255 < fn.toNat then s.refuse .range
  else ⟨.ok, s.functionReport fn.toNat, s⟩

/-- QUERY_FUNCTION. -/
def execQueryFunction (v : Via) (fn : Half) (s : State) : Host.Outcome State Fault Refusal :=
  .next (requestStep (.queryFunction v fn) (queryFunctionAct fn) s)

/-! ### QUERY SEGMENT and QUERY DIE -/

/-- R93: a FREE segment's position in its die's free queue, 1 being the head. R93 gives the field for a FREE segment only:
that the report of any other segment carries it too, as absent, is the model's choice (DESIGN CHOICE, log entry 37). -/
def State.freePosition (s : State) (g : Seg) : Option Nat :=
  if (s.segment g).state = .free then some ((s.die g.die).freeQueue.idxOf g.block + 1) else none

/-- R93: the report of segment g. -/
def State.segmentReport (s : State) (g : Seg) : List Byte :=
  let e := s.segment g
  one e.state.number ++ orAbsent 2 two e.owner ++ one e.cls.number ++ two e.nextUnit ++ two e.doneUnits ++
    two e.written ++ two e.valid ++ bytes32 e.closeSeq ++ flagSet [e.short, e.failed, e.suspect] ++
    two (e.nextUnit - e.doneUnits) ++ orAbsent 2 two (s.freePosition g)

/-- QUERY SEGMENT's owner (R93). -/
def querySegmentAct (g : SegmentName) (s : State) : Reply :=
  if s.control.geometry = none then s.refuse .state
  else if !s.hasSegment (segOf g) then s.refuse .range
  else ⟨.ok, s.segmentReport (segOf g), s⟩

/-- QUERY_SEGMENT. -/
def execQuerySegment (v : Via) (g : SegmentName) (s : State) : Host.Outcome State Fault Refusal :=
  .next (requestStep (.querySegment v g) (querySegmentAct g) s)

/-- The Segment Table entries of die d that are listed, which are those that differ from the power-on entry. -/
def State.dieEntries (s : State) (d : Nat) : List Segment :=
  (s.segments.filter fun c => (s.segOfIndex c.1).die = d).map Prod.snd

/-- R94: the number of the die's segments in a state. Every segment of the die that is not listed is UNTRACKED. -/
def State.countInState (s : State) (d : Nat) (st : SegmentState) : Nat :=
  let entries := s.dieEntries d
  let listed := (entries.filter fun e => e.state = st).length
  if st = .untracked then listed + (s.geo.blocks - entries.length) else listed

/-- R94: the seven segment states, in their order. -/
def segmentStates : List SegmentState := [.untracked, .free, .opened, .filled, .closed, .victim, .retired]

/-- R94: the report of die d. The head of an empty slot wait list is sent as absent (DESIGN CHOICE, log entry 37). The seven
numbers of segments are seven 2-byte fields in the order of Table 4-2, with no count ahead of them (DESIGN CHOICE, log
entry 39). -/
def State.dieReport (s : State) (d : Nat) : List Byte :=
  let die := s.die d
  coreField die.configured ++ coreField die.assigned ++ two die.freeQueue.length ++ listOf two die.freeQueue ++
    two die.inFlight ++ two s.limits.dieInFlight ++ two die.openPoints ++ yes die.supplyLow ++
    two die.slotWait.length ++ orAbsent 2 two die.slotWait.head? ++
    segmentStates.flatMap (fun st => two (s.countInState d st)) ++ one s.rotation ++ bytes32 s.closeSeq

/-- QUERY DIE's owner (R94). -/
def queryDieAct (die : Byte) (s : State) : Reply :=
  if s.control.geometry = none then s.refuse .state
  else if s.geo.dies ≤ die.toNat then s.refuse .range
  else ⟨.ok, s.dieReport die.toNat, s⟩

/-- QUERY_DIE. -/
def execQueryDie (v : Via) (die : Byte) (s : State) : Host.Outcome State Fault Refusal :=
  .next (requestStep (.queryDie v die) (queryDieAct die) s)

/-! ### QUERY DEVICE -/

/-- R184: the number of open streams of a class. -/
def State.countOpen (s : State) (cls : StreamClass) : Nat :=
  (s.openStreams.filter fun i => (s.stream i).cls = cls).length

/-- R184: the pending-report list holds records alone; a flush that waits stands in its function's flush state. -/
def State.pendingReports (s : State) : Nat :=
  (s.reports.filter fun c => match c with
    | .fragment _ => true
    | .flush _ => false).length

/-- R184: the batches in flight. -/
def State.batchesInFlight (s : State) : Nat := (s.slots.filter fun c => c.2.batch.isSome).length

/-- R184: the configured and assigned core of a die. -/
def State.dieCores (s : State) (d : Nat) : List Byte := coreField (s.die d).configured ++ coreField (s.die d).assigned

/-- R184: the report of the device. The limits and the two core states are sent with no count ahead of them (DESIGN
CHOICE, log entry 39). -/
def State.deviceReport (s : State) : List Byte :=
  one s.device.number ++ yes s.control.powerFail ++ bytes32 s.tick ++
    geometryField s.control.geometry ++ yes s.control.geometry.isSome ++ yes s.control.locked ++
    orAbsent 2 (fun g => two g.capacity) s.control.geometry ++ limitsField s.limits ++
    (List.range Config.dies).flatMap s.dieCores ++ yes s.mapComplete ++
    one s.cores.core0.number ++ one s.cores.core1.number ++ bytes32 s.closeSeq ++ one s.rotation ++
    two (s.countOpen .tenant) ++ two (s.countOpen .reclaim) ++ two s.waitSupply.length ++
    two s.tenantInUse ++ two s.reclaimInUse ++ two s.pendingReports ++
    two s.batchesInFlight ++ two s.queues.core0.length ++ two s.queues.core1.length ++ two s.queues.parked.length

/-- QUERY DEVICE's owner (R184). -/
def queryDeviceAct (s : State) : Reply := ⟨.ok, s.deviceReport, s⟩

/-- QUERY_DEVICE. -/
def execQueryDevice (v : Via) (s : State) : Host.Outcome State Fault Refusal :=
  .next (requestStep (.queryDevice v) queryDeviceAct s)

end Sys2Proof.Machine
end

