-- ==== Sys2Proof/Machine/Streams.lean ====
section
/-! DEFINITION. The stream requests (Chapter 1, and section 6.4 for RESUME STREAM and DISCARD STREAM). -/

namespace Sys2Proof.Machine

/-! ### OPEN STREAM -/

/-- R10: the class of the stream that a port opens, and its owner function when it is a TENANT stream. -/
def openClass (p : Port) (fn : Byte) : StreamClass × Nat :=
  match p with
  | .rp => (.reclaim, 0)
  | .fp => (.tenant, fn.toNat)
  | .mp0 => (.tenant, fn.toNat)
  | .mp1 => (.tenant, fn.toNat)

/-- R10 step 1: the die mask has a bit set for a die below D. -/
def State.maskHasDie (s : State) (mask : DieMask) : Bool := (List.range s.geo.dies).any fun d => mask.getLsbD d

/-- R10 step 2: the refusal that the owner function's state gives a TENANT stream. -/
def State.ownerRefusal (s : State) (cls : StreamClass) (f : Nat) : Option Code :=
  match cls, (s.function f).state with
  | .reclaim, _ => none
  | .tenant, .disabled => some .disabled
  | .tenant, .fenced => some .fenced
  | .tenant, .enabled => none

/-- R11: the FREE context with the lowest index. -/
def State.freeStream (s : State) : Option Nat :=
  lowestFrom (fun i => (s.stream i).state = .free) Config.streams 0

/-- R10 step 3, R11: the context an OPEN STREAM of the class takes; none is FULL. -/
def State.streamFor (s : State) (cls : StreamClass) : Option Nat :=
  if cls = .reclaim && Config.reclaimStreams ≤ s.openReclaim then none else s.freeStream

/-- R2: one open stream of the class, and of the owner function, more. -/
def State.countOpened (s : State) (cls : StreamClass) (owner : Nat) : State :=
  match cls with
  | .tenant => s.setFunction owner { s.function owner with openStreams := (s.function owner).openStreams + 1 }
  | .reclaim => { s with openReclaim := s.openReclaim + 1 }

/-- R11: the context of a stream just opened. A requested depth of 0 is the default of 2. -/
def Stream.opened (cls : StreamClass) (owner : Nat) (depth : Nat) (mask : DieMask) : Stream :=
  { Stream.freeOf cls owner with state := .idle, mask := mask, depth := if depth = 0 then 2 else depth }

/-- OPEN STREAM's owner (R9 to R11). -/
def openStreamAct (p : Port) (fn depth : Byte) (mask : DieMask) (s : State) : Reply :=
  s.whileRun <|
    let (cls, owner) := openClass p fn
    if !s.maskHasDie mask || 4 < depth.toNat then s.refuse .range
    else
      match s.ownerRefusal cls owner with
      | some c => s.refuse c
      | none =>
        match s.streamFor cls with
        | none => s.refuse .full
        | some i =>
          ⟨.ok, two i, (s.setStream i (.opened cls owner depth.toNat mask)).countOpened cls owner⟩

/-- OPEN_STREAM. -/
def execOpenStream (v : Via) (fn depth : Byte) (mask : DieMask) (s : State) : Host.Outcome State Fault Refusal :=
  .next (requestStep (.openStream v fn depth mask) (openStreamAct v.port fn depth mask) s)

/-! ### BIND and UNBIND -/

/-- R12: the stream takes a binding of function f. -/
def Stream.takesBinding (st : Stream) (f : Nat) : Bool :=
  st.cls = .tenant && st.owner = f && (st.state = .idle || st.state = .active || st.state = .waitSupply)

/-- R6: one entry that names stream i more. -/
def State.raiseHints (s : State) (i : Nat) : State :=
  s.setStream i { s.stream i with boundHints := (s.stream i).boundHints + 1 }

/-- R6: one entry that names stream i less. -/
def State.lowerHints (s : State) (i : Nat) : State :=
  s.setStream i { s.stream i with boundHints := (s.stream i).boundHints - 1 }

/-- R6, R14: the entry of (f, k) is emptied. -/
def State.unbind (s : State) (f k : Nat) : State :=
  match s.binding f k with
  | some i => (s.lowerHints i).setBinding f k none
  | none => s

/-- R13: the entry of (f, k) comes to name stream i. An entry that already named it is left as it is. -/
def State.bindTo (s : State) (f k i : Nat) : State :=
  if s.binding f k = some i then s else ((s.unbind f k).raiseHints i).setBinding f k (some i)

/-- BIND's owner (R9, R12, R13). -/
def bindAct (fn hint : Byte) (stream : Half) (s : State) : Reply :=
  s.whileRun <|
    let f := fn.toNat
    let i := stream.toNat
    if 7 < hint.toNat || 1023 < i then s.refuse .range
    else if (s.function f).state = .disabled || !(s.stream i).takesBinding f then s.refuse .state
    else ⟨.ok, [], s.bindTo f hint.toNat i⟩

/-- BIND. -/
def execBind (v : Via) (fn hint : Byte) (stream : Half) (s : State) : Host.Outcome State Fault Refusal :=
  .next (requestStep (.bind v fn hint stream) (bindAct fn hint stream) s)

/-- UNBIND's owner (R9, R14). -/
def unbindAct (fn hint : Byte) (s : State) : Reply :=
  s.whileRunOrDrain <|
    if 7 < hint.toNat then s.refuse .range else ⟨.ok, [], s.unbind fn.toNat hint.toNat⟩

/-- UNBIND. -/
def execUnbind (v : Via) (fn hint : Byte) (s : State) : Host.Outcome State Fault Refusal :=
  .next (requestStep (.unbind v fn hint) (unbindAct fn hint) s)

/-! ### SET STREAM MODE -/

/-- SET STREAM MODE's owner (R9, R15). A mode that is not in its list is RANGE at the range check (R186). -/
def setStreamModeAct (stream : Half) (mode : Byte) (s : State) : Reply :=
  s.whileRunOrDrain <|
    let i := stream.toNat
    match intakeOf mode with
    | none => s.refuse .range
    | some m =>
      if 1023 < i then s.refuse .range
      else if (s.stream i).state = .free then s.refuse .state
      else ⟨.ok, [], s.setStream i { s.stream i with intake := m }⟩

/-- SET_STREAM_MODE. -/
def execSetStreamMode (v : Via) (stream : Half) (mode : Byte) (s : State) : Host.Outcome State Fault Refusal :=
  .next (requestStep (.setStreamMode v stream mode) (setStreamModeAct stream mode) s)

/-! ### CLOSE STREAM -/

/-- R16 step 3: the port does not close streams of this class. -/
def wrongClass (p : Port) (cls : StreamClass) : Bool :=
  match p, cls with
  | .rp, .tenant => true
  | .rp, .reclaim => false
  | .fp, .reclaim => true
  | .fp, .tenant => false
  | .mp0, .reclaim => true
  | .mp0, .tenant => false
  | .mp1, .reclaim => true
  | .mp1, .tenant => false

/-- R16: the first check that an open or FREE stream fails. -/
def Stream.closeRefusal (st : Stream) (p : Port) : Option Code :=
  if st.state = .free then some .state
  else if wrongClass p st.cls then some .notPermitted
  else
    match st.state with
    | .halted => some .state
    | .draining => some .closing
    | .free | .idle | .active | .waitSupply => none

/-- R17: the entry of (f, k) is emptied when it names stream i. -/
def State.unbindFrom (i f : Nat) (s : State) (k : Nat) : State :=
  if s.binding f k = some i then s.setBinding f k none else s

/-- R17: every entry that names stream i is emptied. Only its owner function's entries can name it (R6). -/
def State.unbindAll (s : State) (i : Nat) : State :=
  (List.range 8).foldl (State.unbindFrom i (s.stream i).owner) s

/-- R17, R18: an accepted CLOSE STREAM. -/
def State.startClose (s : State) (i : Nat) (p : Port) : State :=
  let s := s.unbindAll i
  let s := s.setStream i { s.stream i with boundHints := 0, state := .draining, requester := some p }
  (s.markAndTest i).closeTest i

/-- CLOSE STREAM's owner (R9, R16 to R18). -/
def closeStreamAct (p : Port) (stream : Half) (s : State) : Reply :=
  s.whileRunOrDrain <|
    let i := stream.toNat
    if 1023 < i then s.refuse .range
    else
      match (s.stream i).closeRefusal p with
      | some c => s.refuse c
      | none => ⟨.accepted, [], s.startClose i p⟩

/-- CLOSE_STREAM. -/
def execCloseStream (v : Via) (stream : Half) (s : State) : Host.Outcome State Fault Refusal :=
  .next (requestStep (.closeStream v stream) (closeStreamAct v.port stream) s)

/-! ### RESUME STREAM and DISCARD STREAM -/

/-- R120, R121 step 3: a HALTED stream becomes IDLE with a failure count of 0. -/
def State.leaveHalt (s : State) (i : Nat) : State := s.setStream i { s.stream i with state := .idle, failures := 0 }

/-- R120: an accepted RESUME STREAM. -/
def State.resume (s : State) (i : Nat) : State := ((s.leaveHalt i).setSeal i).test i

/-- The checks that RESUME STREAM and DISCARD STREAM share (R120, R121). -/
def State.whileHalted (s : State) (stream : Half) (k : Reply) : Reply :=
  s.whileRunOrDrain <|
    if 1023 < stream.toNat then s.refuse .range
    else if (s.stream stream.toNat).state ≠ .halted then s.refuse .state
    else k

/-- RESUME STREAM's owner (R120). -/
def resumeStreamAct (stream : Half) (s : State) : Reply :=
  s.whileHalted stream <|
    let t := s.resume stream.toNat
    ⟨.ok, one (t.stream stream.toNat).state.number, t⟩

/-- RESUME_STREAM. -/
def execResumeStream (v : Via) (stream : Half) (s : State) : Host.Outcome State Fault Refusal :=
  .next (requestStep (.resumeStream v stream) (resumeStreamAct stream) s)

/-- R121, R160: an accepted DISCARD STREAM; the count is of the sectors released. -/
def State.discard (s : State) (i : Nat) : State × Nat :=
  let (t, released) := s.discardMarks i (s.stream i).chain
  let t := ((t.retire i).1).leaveHalt i
  let t := t.setStream i { t.stream i with sealing := .disarmed }
  ((t.test i).drainTest, released)

/-- DISCARD STREAM's owner (R121). -/
def discardStreamAct (stream : Half) (s : State) : Reply :=
  s.whileHalted stream <|
    let i := stream.toNat
    let (t, released) := s.discard i
    ⟨.ok, two (s.stream i).chain.length ++ two released, t⟩

/-- DISCARD_STREAM. -/
def execDiscardStream (v : Via) (stream : Half) (s : State) : Host.Outcome State Fault Refusal :=
  .next (requestStep (.discardStream v stream) (discardStreamAct stream) s)

end Sys2Proof.Machine
end

