-- ==== Sys2Proof/Machine/Dispatch.lean ====
section
/-! DEFINITION. The meaning of every command: one arm for each constructor of Instr, each one call. -/

namespace Sys2Proof.Machine

def exec (i : Instr) (s : State) : Host.Outcome State Fault Refusal :=
  match i with
  | .requestFrameArrival p frame => Sys2Proof.Machine.execRequestFrameArrival p frame s
  | .invalidFrame p frame => Sys2Proof.Machine.execInvalidFrame p frame s
  | .responseRead p n => Sys2Proof.Machine.execResponseRead p n s
  | .portReset p => Sys2Proof.Machine.execPortReset p s
  | .powerOnReset => Sys2Proof.Machine.execPowerOnReset s
  | .powerFailAssertion => Sys2Proof.Machine.execPowerFailAssertion s
  | .powerFailDeassertion => Sys2Proof.Machine.execPowerFailDeassertion s
  | .msTick => Sys2Proof.Machine.execMsTick s
  | .sealExpiry stream => Sys2Proof.Machine.execSealExpiry stream s
  | .batchDeadlineExpiry slot => Sys2Proof.Machine.execBatchDeadlineExpiry slot s
  | .submit v fn hint stream tag lba region offset n => Sys2Proof.Machine.execSubmit v fn hint stream tag lba region offset n s
  | .flushFunction v fn tag => Sys2Proof.Machine.execFlushFunction v fn tag s
  | .openStream v fn depth mask => Sys2Proof.Machine.execOpenStream v fn depth mask s
  | .bind v fn hint stream => Sys2Proof.Machine.execBind v fn hint stream s
  | .unbind v fn hint => Sys2Proof.Machine.execUnbind v fn hint s
  | .setStreamMode v stream mode => Sys2Proof.Machine.execSetStreamMode v stream mode s
  | .closeStream v stream => Sys2Proof.Machine.execCloseStream v stream s
  | .resumeStream v stream => Sys2Proof.Machine.execResumeStream v stream s
  | .discardStream v stream => Sys2Proof.Machine.execDiscardStream v stream s
  | .setFunction v fn enable reserve cap timeout => Sys2Proof.Machine.execSetFunction v fn enable reserve cap timeout s
  | .fenceFunction v fn mode => Sys2Proof.Machine.execFenceFunction v fn mode s
  | .unfenceFunction v fn => Sys2Proof.Machine.execUnfenceFunction v fn s
  | .supply v entries => Sys2Proof.Machine.execSupply v entries s
  | .takeBatch v => Sys2Proof.Machine.execTakeBatch v s
  | .takeBatchRepeat v slot gen => Sys2Proof.Machine.execTakeBatchRepeat v slot gen s
  | .batchResultDone v slot gen => Sys2Proof.Machine.execBatchResultDone v slot gen s
  | .batchResultFailed v slot gen result => Sys2Proof.Machine.execBatchResultFailed v slot gen result s
  | .invalidate v entries => Sys2Proof.Machine.execInvalidate v entries s
  | .nominate v scope policy filter count => Sys2Proof.Machine.execNominate v scope policy filter count s
  | .returnSegment v g => Sys2Proof.Machine.execReturnSegment v g s
  | .releaseSegment v g => Sys2Proof.Machine.execReleaseSegment v g s
  | .retireSegment v g => Sys2Proof.Machine.execRetireSegment v g s
  | .setGeometry v dies blocks units sectors => Sys2Proof.Machine.execSetGeometry v dies blocks units sectors s
  | .lockGeometry v => Sys2Proof.Machine.execLockGeometry v s
  | .setLimits v selector value => Sys2Proof.Machine.execSetLimits v selector value s
  | .setDieMap v cores => Sys2Proof.Machine.execSetDieMap v cores s
  | .loadSegment v entries => Sys2Proof.Machine.execLoadSegment v entries s
  | .start v => Sys2Proof.Machine.execStart v s
  | .restart v => Sys2Proof.Machine.execRestart v s
  | .queryStream v stream => Sys2Proof.Machine.execQueryStream v stream s
  | .queryFunction v fn => Sys2Proof.Machine.execQueryFunction v fn s
  | .querySegment v g => Sys2Proof.Machine.execQuerySegment v g s
  | .queryDie v die => Sys2Proof.Machine.execQueryDie v die s
  | .queryDevice v => Sys2Proof.Machine.execQueryDevice v s
  | .collect v count => Sys2Proof.Machine.execCollect v count s
  | .setNotice v mode => Sys2Proof.Machine.execSetNotice v mode s
  | .fragmentDone record => Sys2Proof.Machine.execFragmentDone record s
  | .flushDone fn => Sys2Proof.Machine.execFlushDone fn s
  | .streamClosed stream => Sys2Proof.Machine.execStreamClosed stream s
  | .fenceComplete fn => Sys2Proof.Machine.execFenceComplete fn s
  | .drainComplete => Sys2Proof.Machine.execDrainComplete s
  | .dieSlotGrant die => Sys2Proof.Machine.execDieSlotGrant die s
  | .waitSupplyServe die => Sys2Proof.Machine.execWaitSupplyServe die s
  | .noticePulseEnd p => Sys2Proof.Machine.execNoticePulseEnd p s

end Sys2Proof.Machine
end

