-- ==== Sys2Proof/Safety.lean ====
section
/-! DEFINITION. The terms that statements use: a port that is ready, the answer to a request, and the invariants of
the GK2140. -/

namespace Sys2Proof.Machine

/-! ### Requests -/

/-- A port is ready when no request waits in it and one of its response buffers is empty (R167). -/
def State.ready (s : State) (p : Port) : Bool := (s.port p).requests.isEmpty && s.canRespond p

/-- The ports after a request of port p was answered with no event queued: its response is placed, and the link has
told the master that the frame was taken. -/
def State.answeredPorts (s : State) (i : Instr) (code : Code) (payload : List Byte) : Ports :=
  s.ports.put i.via.port { s.port i.via.port with
    responses := (s.port i.via.port).responses ++ [responseFrame i.kind i.via.crc code.byte payload], link := .taken }

/-- A state whose one change is the answer to a request. -/
def State.answered (s : State) (i : Instr) (code : Code) (payload : List Byte) : State :=
  { s with ports := s.answeredPorts i code payload }

/-- A request that reaches its owner: well formed, on a ready port, permitted there, and not barred by R128. -/
def State.reaches (s : State) (i : Instr) : Bool :=
  i.isRequest && i.wellFormed && s.ready i.via.port && permitted i.kind i.via.port && !s.barred i.via.port i.kind

/-- The response of a request stands in its port's buffers behind those that stood there, with this code and payload;
no other request or response buffer changes. -/
def State.hasAnswer (s t : State) (i : Instr) (code : Code) (payload : List Byte) : Prop :=
  ∀ p, (t.port p).requests = (s.port p).requests ∧
    (t.port p).responses = (s.port p).responses ++
      (if p = i.via.port then [responseFrame i.kind i.via.crc code.byte payload] else []) ∧
    (t.port p).link = if p = i.via.port then .taken else (s.port p).link

/-- No request or response buffer changes. -/
def State.hasNoAnswer (s t : State) : Prop :=
  ∀ p, (t.port p).requests = (s.port p).requests ∧ (t.port p).responses = (s.port p).responses ∧
    (t.port p).link = (s.port p).link

/-- The events that a step from s to t queued: `told p` on port p, none of them lost. A notice condition that became
true starts the pulse of a port in PULSE mode (R173). -/
def State.tells (s t : State) (told : Port → List Event) : Prop :=
  ∀ p, (t.port p).events = (s.port p).events ++ told p ∧ (t.port p).lost = (s.port p).lost ∧
    (t.port p).mode = (s.port p).mode ∧
    (t.port p).pulse = ((s.port p).pulse || ((s.port p).mode = .pulse && !s.notice p && t.notice p))

/-- R170: the status events that a step from s to t queued, in order: `told p` on port p. Each enters while its queue has
a free entry; the others are lost, and set the port's events-lost flag. -/
def State.delivers (s t : State) (told : Port → List Event) : Prop :=
  ∀ p, let free := eventCapacity p - (s.port p).events.length
    (t.port p).events = (s.port p).events ++ (told p).take free ∧
    (t.port p).lost = ((s.port p).lost || decide (free < (told p).length)) ∧
    (t.port p).mode = (s.port p).mode ∧
    (t.port p).pulse = ((s.port p).pulse || ((s.port p).mode = .pulse && !s.notice p && t.notice p))

/-- Every port has room for `k` more events. -/
def State.roomFor (s : State) (k : Nat) : Prop := ∀ p, (s.port p).events.length + k ≤ eventCapacity p

/-- The device serves the requests of RUN and DRAIN. -/
def State.working (s : State) : Bool := s.device = .run || s.device = .drain

/-! ### Invariants -/

/-- Every table is in its canonical form: indices strictly rising, no entry equal to the power-on entry. -/
def State.canonical (s : State) : Bool :=
  Table.canonical .powerOn s.functions && Table.canonical none s.bindings && Table.canonical .powerOn s.streams &&
    Table.canonical .powerOn s.records && Table.canonical .powerOn s.segments && Table.canonical .powerOn s.dies &&
    Table.canonical .powerOn s.slots

/-- R170, Table 9-1: no port holds more events, requests or responses than it has room for. -/
def State.withinCapacity (s : State) : Bool :=
  [Port.fp, .mp0, .mp1, .rp].all fun p =>
    (s.port p).events.length ≤ eventCapacity p && (s.port p).requests.length ≤ Config.portBuffers &&
      (s.port p).responses.length ≤ Config.portBuffers

/-- In CONFIG nothing is held and no record is in use (R24, R47). -/
def State.configEmpty (s : State) : Bool :=
  s.device ≠ .config ||
    (s.budget.total = 0 && s.budget.reclaimHeld = 0 && s.tenantInUse = 0 && s.reclaimInUse = 0)

/-- R24, R25, R47: Ru is the sum of the functions' terms, T and reclaim held are within H and Hr, and the two
partitions of the record pool are within their limits. -/
def State.admissionLaw (s : State) : Bool :=
  Table.canonical .powerOn s.functions && s.budget.unused = (s.functions.map fun c => c.2.term).sum &&
    s.budget.total ≤ s.limits.holdUp && s.budget.reclaimHeld ≤ s.limits.reclaimHeld &&
    s.tenantInUse ≤ Config.records - s.limits.reclaimRecords && s.reclaimInUse ≤ s.limits.reclaimRecords && s.configEmpty

/-! ### One cut -/

/-- R60, R61: the sectors of record r from its placed count to its end, as one extent. -/
def State.restOf (s : State) (r : Nat) : Extent :=
  let f := s.record r
  let offset := f.offset.toNat + f.placed * 4096
  { record := r, lba := f.lba + BitVec.ofNat 48 f.placed
    region := if 2 ^ 32 ≤ offset then f.region + 1 else f.region
    offset := BitVec.ofNat 32 offset, sectors := f.stop - f.placed
    fn := match f.origin with
      | .tenant fn _ => some fn
      | .reclaim => none }

/-- R61: k sectors of record r from its placed count on, as one extent. -/
def State.extentOf (s : State) (r k : Nat) : Extent := { s.restOf r with sectors := k }

/-- R60: all the uncut sectors of stream i, by record in chain order, with the number of sectors of each. -/
def State.restParts (s : State) (i : Nat) : List (Nat × Nat) :=
  ((s.stream i).chain.filter fun r => (s.record r).placed < (s.record r).stop).map fun r =>
    (r, (s.record r).stop - (s.record r).placed)

/-- R57 to R59: a cut that is due on stream i can be made: the stream is below its depth, its write point is the OPEN
segment g with a unit left, g's die is below its limit, and k is the lowest free slot of the Batch Table. -/
def State.pointReady (s : State) (i : Nat) (g : Seg) (k : Nat) : Prop :=
  let st := s.stream i
  st.state ≠ .free ∧ st.state ≠ .halted ∧ st.chain.Nodup ∧ st.inFlight < st.depth ∧ st.writePoint = some g ∧
    (s.die g.die).inFlight < s.limits.dieInFlight ∧ (s.segment g).state = .opened ∧
    (s.segment g).nextUnit < s.geo.units ∧ k < 512 ∧ (s.slot k).batch = none ∧ ∀ j, j < k → (s.slot j).batch ≠ none

/-- R57, R58: no test of stream i makes a cut or asks for anything: it is FREE, HALTED or at its depth, or it has no
write point and waits for its finishing segment or for supply. -/
def State.blocked (s : State) (i : Nat) : Prop :=
  let st := s.stream i
  st.state = .free ∨ st.state = .halted ∨ st.depth ≤ st.inFlight ∨
    (st.writePoint = none ∧ (st.finishing ≠ none ∨ s.supplyWait i = true))

/-- Stream n is an open TENANT stream of function f. -/
def State.ofFunction (s : State) (f n : Nat) : Bool :=
  (s.stream n).state ≠ .free && (s.stream n).cls = .tenant && (s.stream n).owner = f

/-- R68: between s and t nothing changed but the seals: those of the streams in `p` that have uncut sectors are PENDING. -/
def State.marks (s t : State) (p : Nat → Bool) : Prop :=
  t = { s with streams := t.streams } ∧
    ∀ n, t.stream n = if p n && 1 ≤ s.uncut n then { s.stream n with sealing := .pending } else s.stream n

/-- R60 to R62, R66, R87, R96: between s and t, stream i cut one batch of `parts` (records, with the sectors taken of each)
into its write point g, in slot k; its seal became `sealing`. A segment whose last unit this is becomes FILLED, and the
stream's finishing segment. -/
def State.cuts (s t : State) (i : Nat) (g : Seg) (k : Nat) (parts : List (Nat × Nat)) (sealing : Seal) : Prop :=
  let st := s.stream i
  let seg := s.segment g
  let die := s.die g.die
  let real := (parts.map Prod.snd).sum
  let pad := s.geo.sectors - real
  let last := decide (s.geo.units ≤ seg.nextUnit + 1)
  let batch : Batch :=
    { phase := .queued, place := s.placeOf g.die, stream := i, cls := st.cls, seg := g, unit := seg.nextUnit, real := real,
      pad := pad, extents := parts.map fun x => s.extentOf x.1 x.2, overdue := false }
  t = { ((((s.setSlot k { s.slot k with batch := some batch }).enqueue (s.placeOf g.die) k).setSegment g
      { seg with nextUnit := seg.nextUnit + 1, state := if last then .filled else seg.state }).setStream i
      { st with inFlight := st.inFlight + 1, padTotal := min (st.padTotal + pad) (2 ^ 32 - 1), sealing := sealing
                writePoint := if last then none else st.writePoint, finishing := if last then some g else st.finishing
                state := if last && st.state = .active then .idle else st.state }).setDie
      g.die { die with inFlight := die.inFlight + 1, openPoints := if last then die.openPoints - 1 else die.openPoints } with
    records := t.records, ports := t.ports } ∧
    ∀ r, t.record r = { s.record r with
      placed := (s.record r).placed + ((parts.filter fun x => x.1 = r).map Prod.snd).sum }

/-! ### The layouts of Chapter 11 -/

/-- Table 11-3, check 5 of R165: the payload lengths a request kind allows; `count` is byte 0 of the payload. -/
def payloadLengths (kind count : Nat) : List Nat :=
  match kind with
  | 0x01 => [20] | 0x02 => [6] | 0x03 => [10] | 0x04 => [4] | 0x05 => [2] | 0x06 => [3] | 0x07 => [2] | 0x08 => [2]
  | 0x09 => [2] | 0x0A => [8] | 0x0B => [3] | 0x0C => [2] | 0x0D => [1 + 3 * count] | 0x0E => [0, 3] | 0x0F => [4]
  | 0x10 => [1 + 5 * count] | 0x11 => [4] | 0x12 => [3] | 0x13 => [3] | 0x14 => [3] | 0x15 => [6] | 0x16 => [0]
  | 0x17 => [3] | 0x18 => [64] | 0x19 => [1 + 12 * count] | 0x1A => [0] | 0x1B => [0] | 0x1C => [2] | 0x1D => [2]
  | 0x1E => [3] | 0x1F => [1] | 0x20 => [0] | 0x21 => [1] | 0x22 => [1] | _ => []

/-- R185: a number in `width` bytes, least significant byte first. -/
def bytesOf (width value : Nat) : List Byte := (List.range width).map fun k => BitVec.ofNat 8 (value / 256 ^ k)

/-- R185: fields in order, each a width and a value. -/
def fieldBytes (fields : List (Nat × Nat)) : List Byte := fields.flatMap fun x => bytesOf x.1 x.2

/-- R185: a field shown as absent carries all ones at its width. -/
def orOnes (width : Nat) (value : Option Nat) : Nat × Nat := (width, value.getD (256 ^ width - 1))

/-- R185: a set of flags, with the flags at bits 0 upward. -/
def bitsOf : List Bool → Nat
  | [] => 0
  | b :: t => (if b then 1 else 0) + 2 * bitsOf t

end Sys2Proof.Machine
end

