-- ==== Sys2Proof/Certificates/Slice0/Obligations.lean ====
section
/-! DEFINITION. The statements for the provers. Each docstring names the rules it formalises. -/

section
open Sys2Proof Sys2Proof.Machine

/-! ### The whole machine -/

/-- R185, R186: the frame of every well-formed request reads back as that request, with every operand at every value. -/
def Obligations.RequestFramesReadBack : Prop :=
  ∀ i : Instr, i.isRequest = true → i.wellFormed = true → readFrame i.via.port i.frame = .request i

/-- R164, R167: on a ready port, a frame that arrives and is then executed leaves what its execution with its arrival
leaves: of a request, and of any bytes executed as an invalid frame. That a request row arrives and is executed in one
step is the model's choice (log entry 1). -/
def Obligations.ArrivalThenExecution : Prop :=
  (∀ (i : Instr) (s : State), i.isRequest = true → i.wellFormed = true → s.ready i.via.port = true →
    ∃ t, exec (.requestFrameArrival i.via.port i.frame) s = .next t ∧ (t.port i.via.port).requests = [i.frame] ∧
      exec i t = exec i s) ∧
  (∀ (p : Port) (frame : List Byte) (s : State), s.ready p = true →
    ∃ t, exec (.requestFrameArrival p frame) s = .next t ∧ (t.port p).requests = [frame] ∧
      exec (.invalidFrame p frame) t = exec (.invalidFrame p frame) s)

/-- Every step keeps every table in its canonical form. The canonical form is the model's (log entry 24). -/
def Obligations.TablesStayCanonical : Prop :=
  ∀ s t : State, s.canonical = true → step s = .next t → t.canonical = true

/-- R170, R164, R167: every step keeps every event queue, and every port's buffers, within their capacities. -/
def Obligations.PortsStayWithinCapacity : Prop :=
  ∀ s t : State, s.withinCapacity = true → step s = .next t → t.withinCapacity = true

/-- R24, R25, R47: every step keeps T within H, reclaim held within Hr, Ru the sum of the functions' unused reserves, and
the record partitions within their limits. -/
def Obligations.AdmissionLawIsKept : Prop :=
  ∀ s t : State, s.admissionLaw = true → step s = .next t → t.admissionLaw = true

/-- The state after power-on reset satisfies the invariants. -/
def Obligations.ResetMeetsTheInvariants : Prop :=
  State.reset.canonical = true ∧ State.reset.withinCapacity = true ∧ State.reset.admissionLaw = true

/-- A step takes the command at the front of the queue and executes it on the rest; an empty queue idles. The queue of
commands and the idling on an empty one are the model's (log entry 5). -/
def Obligations.StepTakesTheFrontCommand : Prop :=
  (∀ (c : Instr) (q : List Instr) (s : State), step (s.withPending (c :: q)) = exec c (s.withPending q)) ∧
  (∀ s : State, step (s.withPending []) = .next (s.withPending []))

/-- Every command completes in one step, and none reads or changes the queue of waiting commands. The queue is the
model's (log entry 5). -/
def Obligations.CommandsLeaveTheQueue : Prop :=
  ∀ (c : Instr) (s : State), ∃ t, exec c s = .next t ∧ t.pending = s.pending

/-- R178: once the geometry is locked, no command but power-on reset changes it or unlocks it. -/
def Obligations.LockedGeometryIsKept : Prop :=
  ∀ (c : Instr) (s t : State), c ≠ .powerOnReset → s.control.locked = true → exec c s = .next t →
    t.control.locked = true ∧ t.control.geometry = s.control.geometry

/-- R162, Table 8-4: from DRAIN a command leads to DRAIN or DRAINED, and from DRAINED to DRAINED, unless it is power-on
reset. -/
def Obligations.DrainIsLeftByReset : Prop :=
  ∀ (c : Instr) (s t : State), c ≠ .powerOnReset → exec c s = .next t →
    (s.device = .drain → t.device = .drain ∨ t.device = .drained) ∧ (s.device = .drained → t.device = .drained)

/-! ### Ports -/

/-- R164, R168, R169, R173, R177, R158: a frame's arrival, a read, a port reset, the end of a pulse, a tick and a
deassertion of POWER-FAIL change only what is named here. The link field, which records what the port's master was
told, is the model's (log entry 8). -/
def Obligations.LinkAndClockCommands : Prop :=
  (∀ (p : Port) (frame : List Byte) (s : State), (s.port p).requests.length < 2 →
    exec (.requestFrameArrival p frame) s =
      .next (s.setPort p { s.port p with requests := (s.port p).requests ++ [frame], link := .taken })) ∧
  (∀ (p : Port) (frame : List Byte) (s : State), 2 ≤ (s.port p).requests.length →
    exec (.requestFrameArrival p frame) s = .next (s.setPort p { s.port p with link := .busy })) ∧
  (∀ (p : Port) (s : State), exec (.portReset p) s =
    .next (s.setPort p { s.port p with requests := [], responses := [], link := .quiet })) ∧
  (∀ (p : Port) (s : State), exec (.noticePulseEnd p) s = .next (s.setPort p { s.port p with pulse := false })) ∧
  (∀ s : State, exec .msTick s = .next (s.setControl { s.control with tick := s.control.tick + 1 })) ∧
  (∀ s : State, exec .powerFailDeassertion s = .next (s.setControl { s.control with powerFail := false }))

/-- R168: a read that takes a response whole empties its buffer; a shorter one gives its first bytes and leaves it; a
read of empty buffers gives nothing. The link field is the model's (log entry 8), and the request that may then be
executed is another command (log entry 27). -/
def Obligations.ResponsesAreReadWholeOrLeft : Prop :=
  ∀ (p : Port) (n : Nat) (s : State),
    ((s.port p).responses = [] → exec (.responseRead p n) s = .next (s.setPort p { s.port p with link := .read [] })) ∧
    ∀ r rest, (s.port p).responses = r :: rest →
      (r.length ≤ n →
        exec (.responseRead p n) s = .next (s.setPort p { s.port p with responses := rest, link := .read r })) ∧
      (n < r.length →
        exec (.responseRead p n) s = .next (s.setPort p { s.port p with link := .read (r.take n) }))

/-- R165, R185: a frame that fails the PIU's checks is answered, in the order of the checks, and has no other effect.
That such a frame is a command of its own is the table's row; its turn on the port is the model's choice (log entries 1, 31). -/
def Obligations.InvalidFramesAreRefused : Prop :=
  ∀ (p : Port) (frame : List Byte) (s : State), s.ready p = true →
    let answer (kind : Byte) (crc : Bool) (code : Code) : Host.Outcome State Fault Refusal :=
      .next (s.setPort p { s.port p with
        responses := (s.port p).responses ++ [responseFrame kind crc code.byte []], link := .taken })
    (frame.length < 4 → exec (.invalidFrame p frame) s = answer 0 false .frame) ∧
    ∀ (kind flags l0 l1 : Byte) (body : List Byte), frame = kind :: flags :: l0 :: l1 :: body →
      let crc := flags.getLsbD 0
      let declared := (join16 l0 l1).toNat
      let whole := declared ≤ 1280 ∧ body.length = declared + (if crc then 1 else 0)
      let sound := crc = true → crc8 (frame.take (4 + declared)) = body.getD declared 0
      (¬ whole → exec (.invalidFrame p frame) s = answer kind crc .frame) ∧
      (whole → ¬ sound → exec (.invalidFrame p frame) s = answer kind crc .frame) ∧
      (whole → sound → kind = 0 ∨ 0x22 < kind.toNat → exec (.invalidFrame p frame) s = answer kind crc .unknown) ∧
      (whole → sound → 1 ≤ kind.toNat → kind.toNat ≤ 0x22 →
        declared ∉ payloadLengths kind.toNat (body.getD 0 0).toNat →
        exec (.invalidFrame p frame) s = answer kind crc .frame) ∧
      (∀ i, readFrame p frame = .request i → permitted kind p = false →
        exec (.invalidFrame p frame) s = answer kind crc .notPermitted) ∧
      (∀ i, readFrame p frame = .request i → permitted kind p = true → s.barred p kind = true →
        exec (.invalidFrame p frame) s = answer kind crc .coreFailed)

/-- R167: while no response buffer of its port is empty a waiting request is not executed and nothing changes; a
request behind another is not executed either, but arrives and waits. How a row stands for its frame is the model's
choice (log entry 1). -/
def Obligations.RequestsWaitTheirTurn : Prop :=
  ∀ (i : Instr) (s : State) (f : List Byte) (rest : List (List Byte)), i.isRequest = true → i.wellFormed = true →
    (s.port i.via.port).requests = f :: rest →
    (readFrame i.via.port f = .request i → s.canRespond i.via.port = false → exec i s = .next s) ∧
    (readFrame i.via.port f ≠ .request i → exec i s = exec (.requestFrameArrival i.via.port i.frame) s)

/-- R166, R128, Table 9-2: a request from a port that is not marked for it, and a request from the port of a FAILED core
that such a port does not serve, is answered so and has no other effect. Nor has a request that the device state does
not serve, answered NOT-RUNNING, POWER or STATE by its kind's rule: R9 and Table 1-4 for the stream requests, R28 SUBMIT,
R42 SET FUNCTION, R74 SUPPLY, R100 TAKE BATCH, R103 BATCH RESULT, R120 and R121 RESUME and DISCARD STREAM, R131
INVALIDATE, R139 NOMINATE, R142 the requests on victims, R149 FLUSH FUNCTION, R152 and R157 the fence requests, R176 the
configuration requests, and R159, R162 and Table 8-5 in DRAIN and DRAINED. The kinds are the codes of Table 11-3. How a row stands for its frame is the model's choice
(log entry 1). -/
def Obligations.UnpermittedRequestsChangeNothing : Prop :=
  ∀ (i : Instr) (s : State), i.isRequest = true → i.wellFormed = true → s.ready i.via.port = true →
    (permitted i.kind i.via.port = false → exec i s = .next (s.answered i .notPermitted [])) ∧
    (permitted i.kind i.via.port = true → s.barred i.via.port i.kind = true →
      exec i s = .next (s.answered i .coreFailed [])) ∧
    (permitted i.kind i.via.port = true → s.barred i.via.port i.kind = false →
      let kind := i.kind.toNat
      let refused (c : Code) := exec i s = .next (s.answered i c [])
      (kind ∈ [0x01, 0x02, 0x03, 0x04, 0x0B, 0x0C, 0x11] →
        (s.device = .config → refused .notRunning) ∧ (s.device = .drain ∨ s.device = .drained → refused .power)) ∧
      (kind ∈ [0x05, 0x06, 0x07, 0x08, 0x09, 0x0E, 0x0F, 0x10, 0x12, 0x13, 0x14] →
        (s.device = .config → refused .notRunning) ∧ (s.device = .drained → refused .power)) ∧
      (kind ∈ [0x0A, 0x17, 0x1B] → s.device = .drain ∨ s.device = .drained → refused .power) ∧
      (kind ∈ [0x0D, 0x22] → s.device = .drained → refused .power) ∧
      (kind ∈ [0x15, 0x16, 0x18, 0x19, 0x1A] →
        (s.device = .run → refused .state) ∧ (s.device = .drain ∨ s.device = .drained → refused .power)))

/-- R172, R171: COLLECT gives the oldest events and the events-lost flag, removes them and clears it; a count outside 1 to
15 is refused. With no completion waiting for the port that is all. With RECLAIM completions waiting for RP, they are
placed, oldest first, while the queue has a free entry; each record placed is FREE, and the length the response gives is
that after the placement. The fields of a FREE record are the model's choice (log entry 23). -/
def Obligations.CollectGivesTheOldestEvents : Prop :=
  ∀ (v : Via) (count : Byte) (s : State), s.reaches (.collect v count) = true →
    let moved := (s.port v.port).events.take count.toNat
    let left := (s.port v.port).events.drop count.toNat
    (count.toNat < 1 ∨ 15 < count.toNat → exec (.collect v count) s = .next (s.answered (.collect v count) .range [])) ∧
    (1 ≤ count.toNat → count.toNat ≤ 15 → s.oldestReport v.port = none →
      exec (.collect v count) s =
        .next ((s.setPort v.port { s.port v.port with events := left, lost := false }).answered (.collect v count) .ok
          (one moved.length ++ yes (s.port v.port).lost ++ two left.length ++ moved.flatMap Event.bytes))) ∧
    (1 ≤ count.toNat → count.toNat ≤ 15 → v.port = .rp → (s.port .rp).events ≠ [] →
      ∀ (rs : List Nat) (status : Nat → RetireStatus), s.reports = rs.map Completion.fragment → rs.Nodup →
      (∀ r ∈ rs, (s.record r).condition = .pendingReport (status r) ∧ (s.record r).origin = .reclaim ∧
        (s.stream (s.record r).stream).state ≠ .draining) →
      (∀ x, s.budget.reclaimWait ≠ .records x) →
      let placed := rs.take (256 - left.length)
      let told := placed.map fun r => Event.fragmentDone (s.record r).tag (s.record r).stream (status r)
      ∃ t : State,
        exec (.collect v count) s = .next (t.answered (.collect v count) .ok
          (one moved.length ++ yes (s.port .rp).lost ++ two (left.length + placed.length) ++ moved.flatMap Event.bytes)) ∧
        t = { s.setPort .rp { s.port .rp with events := left ++ told, lost := false } with
          records := t.records, reclaimInUse := s.reclaimInUse - placed.length
          reports := (rs.drop placed.length).map Completion.fragment } ∧
        ∀ r, t.record r = if r ∈ placed then Fragment.powerOn else s.record r)

/-- R174: SET NOTICE sets the mode of the requesting port. After a change to LEVEL the line follows the condition; after a
change to PULSE it is deasserted. -/
def Obligations.SetNoticeSetsTheMode : Prop :=
  ∀ (v : Via) (mode : Byte) (s : State), s.reaches (.setNotice v mode) = true →
    (s.device = .drained → exec (.setNotice v mode) s = .next (s.answered (.setNotice v mode) .power [])) ∧
    (s.device ≠ .drained → 1 < mode.toNat →
      exec (.setNotice v mode) s = .next (s.answered (.setNotice v mode) .range [])) ∧
    (s.device ≠ .drained → ∀ m, noticeModeOf mode = some m →
      ((s.port v.port).mode = m → exec (.setNotice v mode) s = .next (s.answered (.setNotice v mode) .ok [])) ∧
      ((s.port v.port).mode ≠ m → ∃ t,
        t = s.setPort v.port { s.port v.port with mode := m, pulse := false } ∧
        exec (.setNotice v mode) s = .next (t.answered (.setNotice v mode) .ok []) ∧
        t.noticeLine v.port = (m = .level && s.notice v.port)))

/-! ### Streams -/

/-- R10, R11: the checks of OPEN STREAM in their order; and an accepted one takes the FREE context with the lowest index, for
the class its port opens, and answers that index. Every other context and count is unchanged. -/
def Obligations.OpenStreamTakesTheLowestFree : Prop :=
  ∀ (v : Via) (fn depth : Byte) (mask : DieMask) (s : State),
    s.reaches (.openStream v fn depth mask) = true → s.device = .run →
    let i : Instr := .openStream v fn depth mask
    let f := fn.toNat
    let fr := s.function f
    let refused (c : Code) := exec i s = .next (s.answered i c [])
    let opened (cls : StreamClass) (owner : Nat) : Stream :=
      { state := .idle, cls := cls, owner := owner, intake := .accept, mask := mask,
        depth := if depth = 0 then 2 else depth.toNat, requester := none, writePoint := none, finishing := none,
        inFlight := 0, sealing := .disarmed, failures := 0, padTotal := 0, batchesDone := 0, boundHints := 0, chain := [] }
    ((∀ d, d < s.geo.dies → mask.getLsbD d = false) ∨ 4 < depth.toNat → refused .range) ∧
    ((∃ d, d < s.geo.dies ∧ mask.getLsbD d = true) → depth.toNat ≤ 4 →
      (v.port ≠ .rp → fr.state = .disabled → refused .disabled) ∧
      (v.port ≠ .rp → fr.state = .fenced → refused .fenced) ∧
      (v.port = .rp ∨ fr.state = .enabled → (∀ n, n < 1024 → (s.stream n).state ≠ .free) → refused .full) ∧
      (v.port = .rp → 32 ≤ s.openReclaim → refused .full) ∧
      (∀ n, n < 1024 → (s.stream n).state = .free → (∀ j, j < n → (s.stream j).state ≠ .free) →
        (v.port = .rp → s.openReclaim < 32 → exec i s =
          .next (({ s with openReclaim := s.openReclaim + 1 }.setStream n (opened .reclaim 0)).answered i .ok (two n))) ∧
        (v.port ≠ .rp → fr.state = .enabled → exec i s =
          .next (((s.setStream n (opened .tenant f)).setFunction f { fr with openStreams := fr.openStreams + 1 }).answered i
            .ok (two n)))))

/-- R12, R13: BIND writes the stream into the entry and moves the bound hints counts with it; it is refused RANGE for a
field out of range, and STATE for a stream that cannot take the binding. -/
def Obligations.BindMovesTheHint : Prop :=
  ∀ (v : Via) (fn hint : Byte) (stream : Half) (s : State),
    s.reaches (.bind v fn hint stream) = true → s.device = .run →
    let i := stream.toNat
    let takes := (s.stream i).cls = .tenant ∧ (s.stream i).owner = fn.toNat ∧
      ((s.stream i).state = .idle ∨ (s.stream i).state = .active ∨ (s.stream i).state = .waitSupply)
    (7 < hint.toNat ∨ 1023 < i → exec (.bind v fn hint stream) s = .next (s.answered (.bind v fn hint stream) .range [])) ∧
    (hint.toNat ≤ 7 → i ≤ 1023 →
      ((s.function fn.toNat).state = .disabled ∨ ¬ takes →
        exec (.bind v fn hint stream) s = .next (s.answered (.bind v fn hint stream) .state [])) ∧
      ((s.function fn.toNat).state ≠ .disabled → takes →
        (s.binding fn.toNat hint.toNat = some i →
          exec (.bind v fn hint stream) s = .next (s.answered (.bind v fn hint stream) .ok [])) ∧
        (s.binding fn.toNat hint.toNat = none →
          exec (.bind v fn hint stream) s =
            .next (((s.setStream i { s.stream i with boundHints := (s.stream i).boundHints + 1 }).setBinding fn.toNat
              hint.toNat (some i)).answered (.bind v fn hint stream) .ok [])) ∧
        (∀ j, s.binding fn.toNat hint.toNat = some j → j ≠ i → ∃ t : State,
          exec (.bind v fn hint stream) s = .next (t.answered (.bind v fn hint stream) .ok []) ∧
          t = { s with streams := t.streams, bindings := t.bindings } ∧
          (∀ a b, t.binding a b = if bindingIndex a b = bindingIndex fn.toNat hint.toNat then some i else s.binding a b) ∧
          (∀ n, t.stream n = if n = i then { s.stream i with boundHints := (s.stream i).boundHints + 1 }
            else if n = j then { s.stream j with boundHints := (s.stream j).boundHints - 1 } else s.stream n))))

/-- R14: UNBIND empties the entry and lowers its stream's count; an empty entry is left as it is. -/
def Obligations.UnbindEmptiesTheEntry : Prop :=
  ∀ (v : Via) (fn hint : Byte) (s : State), s.reaches (.unbind v fn hint) = true → s.working = true →
    (7 < hint.toNat → exec (.unbind v fn hint) s = .next (s.answered (.unbind v fn hint) .range [])) ∧
    (hint.toNat ≤ 7 →
      (s.binding fn.toNat hint.toNat = none →
        exec (.unbind v fn hint) s = .next (s.answered (.unbind v fn hint) .ok [])) ∧
      (∀ i, s.binding fn.toNat hint.toNat = some i →
        exec (.unbind v fn hint) s =
          .next (((s.setStream i { s.stream i with boundHints := (s.stream i).boundHints - 1 }).setBinding fn.toNat
            hint.toNat none).answered (.unbind v fn hint) .ok [])))

/-- R15: SET STREAM MODE sets the intake mode of an open stream and nothing else. -/
def Obligations.SetStreamModeSetsIntake : Prop :=
  ∀ (v : Via) (stream : Half) (mode : Byte) (s : State), s.reaches (.setStreamMode v stream mode) = true →
    s.working = true →
    (1023 < stream.toNat ∨ 1 < mode.toNat →
      exec (.setStreamMode v stream mode) s = .next (s.answered (.setStreamMode v stream mode) .range [])) ∧
    (stream.toNat ≤ 1023 → mode.toNat ≤ 1 → (s.stream stream.toNat).state = .free →
      exec (.setStreamMode v stream mode) s = .next (s.answered (.setStreamMode v stream mode) .state [])) ∧
    (stream.toNat ≤ 1023 → mode.toNat ≤ 1 → (s.stream stream.toNat).state ≠ .free →
      exec (.setStreamMode v stream mode) s =
        .next ((s.setStream stream.toNat { s.stream stream.toNat with
          intake := if mode = 0 then .accept else .hold }).answered (.setStreamMode v stream mode) .ok []))

/-- R16: the checks of CLOSE STREAM in their order; a refused CLOSE STREAM changes nothing. -/
def Obligations.CloseStreamRefusals : Prop :=
  ∀ (v : Via) (stream : Half) (s : State), s.reaches (.closeStream v stream) = true → s.working = true →
    let i := stream.toNat
    let refused (c : Code) := exec (.closeStream v stream) s = .next (s.answered (.closeStream v stream) c [])
    let mine := if v.port = .rp then (s.stream i).cls = .reclaim else (s.stream i).cls = .tenant
    (1023 < i → refused .range) ∧
    (i ≤ 1023 → (s.stream i).state = .free → refused .state) ∧
    (i ≤ 1023 → (s.stream i).state ≠ .free → ¬ mine → refused .notPermitted) ∧
    (i ≤ 1023 → mine → (s.stream i).state = .halted → refused .state) ∧
    (i ≤ 1023 → mine → (s.stream i).state = .draining → refused .closing)

/-- R17, R57 to R59, R68: an accepted CLOSE STREAM empties every entry of the owner function that names the stream, makes
the stream DRAINING with the port as close requester, and changes nothing else, where no sector is uncut and the close
cannot complete at once. With uncut sectors its seal becomes PENDING too, and it cuts them where it can. -/
def Obligations.CloseStreamStartsToDrain : Prop :=
  ∀ (v : Via) (stream : Half) (s : State), s.reaches (.closeStream v stream) = true → s.working = true →
    let i := stream.toNat
    let st := s.stream i
    i ≤ 1023 → (if v.port = .rp then st.cls = .reclaim else st.cls = .tenant) →
    (st.state = .idle ∨ st.state = .active ∨ st.state = .waitSupply) →
    let drains (t : State) (sealing : Seal) : Prop :=
      t = { s with streams := t.streams, bindings := t.bindings } ∧
      (∀ n, t.stream n = if n = i then
        { st with state := .draining, requester := some v.port, boundHints := 0, sealing := sealing } else s.stream n) ∧
      (∀ f k, k < 8 → t.binding f k = if f = st.owner ∧ s.binding f k = some i then none else s.binding f k)
    (s.uncut i = 0 → (st.chain ≠ [] ∨ st.inFlight ≠ 0) → ∃ t : State,
      exec (.closeStream v stream) s = .next (t.answered (.closeStream v stream) .accepted []) ∧ drains t st.sealing) ∧
    (1 ≤ s.uncut i → s.blocked i → ∃ t : State,
      exec (.closeStream v stream) s = .next (t.answered (.closeStream v stream) .accepted []) ∧ drains t .pending) ∧
    (∀ g k, 1 ≤ s.uncut i → s.uncut i ≤ s.geo.sectors → s.pointReady i g k → ∃ t u : State,
      exec (.closeStream v stream) s = .next t ∧ s.hasAnswer t (.closeStream v stream) .accepted [] ∧
      s.delivers t (fun _ => []) ∧ drains u .pending ∧ u.cuts t i g k (s.restParts i) .disarmed)

/-- R17 to R20: the close of a stream that holds nothing and has no write point completes in the accepting step: the
context is FREE, its class's count falls, and STREAM CLOSED is queued on the requesting port, and on FP for a TENANT
stream. -/
def Obligations.CloseStreamCompletesAtOnce : Prop :=
  ∀ (v : Via) (stream : Half) (s : State), s.reaches (.closeStream v stream) = true → s.working = true →
    let i := stream.toNat
    let st := s.stream i
    i ≤ 1023 → (if v.port = .rp then st.cls = .reclaim else st.cls = .tenant) →
    (st.state = .idle ∨ st.state = .waitSupply) → st.writePoint = none → st.chain = [] → st.inFlight = 0 →
    s.reportsOf i = false → s.roomFor 1 → ∃ t : State,
      exec (.closeStream v stream) s = .next t ∧ s.hasAnswer t (.closeStream v stream) .accepted [] ∧
      t = { s with streams := t.streams, bindings := t.bindings, functions := t.functions, openReclaim := t.openReclaim,
                   waitSupply := s.waitSupply.filter (· ≠ i), ports := t.ports } ∧
      (∀ n, t.stream n = if n = i then Stream.freeOf st.cls st.owner else s.stream n) ∧
      (∀ f k, k < 8 → t.binding f k = if f = st.owner ∧ s.binding f k = some i then none else s.binding f k) ∧
      (∀ f, t.function f = if st.cls = .tenant ∧ f = st.owner then
        { s.function f with openStreams := (s.function f).openStreams - 1 } else s.function f) ∧
      t.openReclaim = (if st.cls = .tenant then s.openReclaim else s.openReclaim - 1) ∧
      s.tells t fun p => if p = v.port ∨ (p = .fp ∧ st.cls = .tenant) then [.streamClosed i] else []

/-- R120: RESUME STREAM makes a HALTED stream that has no uncut sector IDLE with a failure count of 0 and a DISARMED seal;
it is refused RANGE, or STATE for a stream that is not HALTED. -/
def Obligations.ResumeStreamLeavesHalt : Prop :=
  ∀ (v : Via) (stream : Half) (s : State), s.reaches (.resumeStream v stream) = true → s.working = true →
    let i := stream.toNat
    (1023 < i → exec (.resumeStream v stream) s = .next (s.answered (.resumeStream v stream) .range [])) ∧
    (i ≤ 1023 → (s.stream i).state ≠ .halted →
      exec (.resumeStream v stream) s = .next (s.answered (.resumeStream v stream) .state [])) ∧
    (i ≤ 1023 → (s.stream i).state = .halted → s.uncut i = 0 →
      exec (.resumeStream v stream) s =
        .next ((s.setStream i { s.stream i with state := .idle, failures := 0, sealing := .disarmed }).answered
          (.resumeStream v stream) .ok [1]))

/-- R120, R82: a HALTED stream with uncut sectors and a seal to place them, for which no die is eligible, is resumed onto
the tail of the WAIT-SUPPLY list. -/
def Obligations.ResumeStreamWaitsForSupply : Prop :=
  ∀ (v : Via) (stream : Half) (s : State), s.reaches (.resumeStream v stream) = true → s.working = true →
    let i := stream.toNat
    let st := s.stream i
    i ≤ 1023 → st.state = .halted → s.geo.sectors ≤ s.uncut i → 1 ≤ s.uncut i → st.inFlight < st.depth →
    st.writePoint = none → st.finishing = none → s.supplyWait i = false →
    (∀ d, s.eligible st.mask d = false) →
    exec (.resumeStream v stream) s = .next
      (({ s with waitSupply := s.waitSupply ++ [i] }.setStream i
        { st with state := .waitSupply, failures := 0, sealing := s.sealFor i }).answered (.resumeStream v stream) .ok [3])

/-- R121, R52, R54: the checks of DISCARD STREAM in their order; and on a HALTED stream in RUN it gives up every chained
sector: the chain is empty, the uncut sectors are released (from reclaim held, or from the owner function's held sectors
and T), every record is reported DISCARDED, and the stream is IDLE. The widths of the response's fields are the model's
reading of section 11.1 (log entry 9), and the fields of a FREE record are its choice (log entry 23). -/
def Obligations.DiscardStreamGivesUpTheChain : Prop :=
  ∀ (v : Via) (stream : Half) (s : State), s.reaches (.discardStream v stream) = true → s.working = true →
    let i := stream.toNat
    let st := s.stream i
    let fr := s.function st.owner
    let refused (c : Code) := exec (.discardStream v stream) s = .next (s.answered (.discardStream v stream) c [])
    (1023 < i → refused .range) ∧
    (i ≤ 1023 → st.state ≠ .halted → refused .state) ∧
    (s.device = .run → i ≤ 1023 → st.state = .halted → st.cls = .reclaim → st.chain.Nodup →
      (∀ r ∈ st.chain, (s.record r).origin = .reclaim ∧ (s.record r).stream = i ∧
        (s.record r).durable = (s.record r).placed) →
      s.budget.reclaimWait = .none → s.reports = [] → (s.port .rp).events.length + st.chain.length ≤ 256 → ∃ t : State,
        exec (.discardStream v stream) s = .next t ∧
        s.hasAnswer t (.discardStream v stream) .ok (two st.chain.length ++ two (s.uncut i)) ∧
        t = { s with streams := t.streams, records := t.records, budget := t.budget, reclaimInUse := t.reclaimInUse,
                     ports := t.ports } ∧
        t.stream i = { st with state := .idle, failures := 0, sealing := .disarmed, chain := [] } ∧
        (∀ n, n ≠ i → t.stream n = s.stream n) ∧
        (∀ r, t.record r = if r ∈ st.chain then Fragment.powerOn else s.record r) ∧
        t.budget = { s.budget with reclaimHeld := s.budget.reclaimHeld - s.uncut i } ∧
        t.reclaimInUse = s.reclaimInUse - st.chain.length ∧
        s.tells t fun p => if p = .rp then st.chain.map fun r => .fragmentDone (s.record r).tag i .discarded else []) ∧
    (s.device = .run → i ≤ 1023 → st.state = .halted → st.cls = .tenant → st.chain.Nodup →
      (∀ r ∈ st.chain, (∃ a, (s.record r).origin = .tenant st.owner a) ∧ (s.record r).stream = i ∧
        (s.record r).durable = (s.record r).placed) →
      fr.state ≠ .disabled → fr.flush = .none → fr.fence = none → (∀ f, (s.function f).wait = .none) → s.reports = [] →
      (s.port .fp).events.length + st.chain.length ≤ 1024 → ∃ t : State,
        exec (.discardStream v stream) s = .next t ∧
        s.hasAnswer t (.discardStream v stream) .ok (two st.chain.length ++ two (s.uncut i)) ∧
        t = { s with streams := t.streams, records := t.records, functions := t.functions, budget := t.budget
                     tenantInUse := s.tenantInUse - st.chain.length, ports := t.ports } ∧
        (∀ n, t.stream n = if n = i then { st with state := .idle, failures := 0, sealing := .disarmed, chain := [] }
          else s.stream n) ∧
        (∀ r, t.record r = if r ∈ st.chain then Fragment.powerOn else s.record r) ∧
        (∀ f, t.function f = if f = st.owner then { fr with
          held := fr.held - s.uncut i, outstanding := fr.outstanding - st.chain.length } else s.function f) ∧
        t.budget = { s.budget with
          total := s.budget.total - s.uncut i
          unused := s.budget.unused + ((fr.reserve - (fr.held - s.uncut i)) - (fr.reserve - fr.held)) } ∧
        s.tells t fun p => if p = .fp then st.chain.map fun r => .fragmentDone (s.record r).tag i .discarded else [])

/-! ### Functions -/

/-- R42, R43: the checks of SET FUNCTION in their order, and what an accepted one stores, where no function waits for
budget: the settings, the state, the wait cleared by a disable, and the change of one term of Ru. -/
def Obligations.SetFunctionStoresTheSettings : Prop :=
  ∀ (v : Via) (fn enable : Byte) (reserve cap timeout : Half) (s : State),
    s.reaches (.setFunction v fn enable reserve cap timeout) = true → (s.device = .config ∨ s.device = .run) →
    let i : Instr := .setFunction v fn enable reserve cap timeout
    let f := fn.toNat
    let fr := s.function f
    let r := reserve.toNat
    let inRange := r ≤ s.limits.holdUp ∧ cap.toNat ≤ s.limits.holdUp ∧ timeout.toNat ≤ 2000 ∧ enable.toNat ≤ 1
    let pinned := enable.toNat = 0 ∧ (fr.state = .fenced ∨ 1 ≤ fr.openStreams ∨ 1 ≤ fr.held)
    let sum := s.reserves (some f) + (if enable.toNat = 1 then r else 0)
    let oldTerm := if fr.state = .disabled then 0 else fr.reserve - fr.held
    let newTerm := if enable.toNat = 1 then r - fr.held else 0
    (¬ inRange → exec i s = .next (s.answered i .range [])) ∧
    (inRange → pinned → exec i s = .next (s.answered i .state [])) ∧
    (inRange → ¬ pinned → s.limits.holdUp < sum → exec i s = .next (s.answered i .range [])) ∧
    (inRange → ¬ pinned → sum ≤ s.limits.holdUp → (∀ g n, (s.function g).wait ≠ .budget n) →
      exec i s = .next (((s.setFunction f { fr with
          reserve := r, cap := cap.toNat, timeout := timeout.toNat,
          state := if enable.toNat = 0 then .disabled else if fr.state = .disabled then .enabled else fr.state,
          wait := if enable.toNat = 0 ∧ fr.state ≠ .disabled then .none else fr.wait }).setBudget
        { s.budget with unused := s.budget.unused + newTerm - oldTerm }).answered i .ok []))

/-- R43, R40: after an accepted SET FUNCTION every BUDGET wait that its function's headroom covers is opened, with
ADMISSION OPEN on FP in ascending function number; every other wait is kept. -/
def Obligations.SetFunctionOpensTheWaits : Prop :=
  ∀ (v : Via) (fn enable : Byte) (reserve cap timeout : Half) (s : State),
    s.reaches (.setFunction v fn enable reserve cap timeout) = true → (s.device = .config ∨ s.device = .run) →
    Table.canonical .powerOn s.functions = true →
    let i : Instr := .setFunction v fn enable reserve cap timeout
    let f := fn.toNat
    let r := reserve.toNat
    r ≤ s.limits.holdUp → cap.toNat ≤ s.limits.holdUp → timeout.toNat ≤ 2000 → enable.toNat = 1 →
    s.reserves (some f) + r ≤ s.limits.holdUp →
    let fr := s.function f
    let stored := (s.setFunction f { fr with
      reserve := r, cap := cap.toNat, timeout := timeout.toNat,
      state := if fr.state = .disabled then .enabled else fr.state }).setBudget
        { s.budget with unused := s.budget.unused + (r - fr.held) -
          (if fr.state = .disabled then 0 else fr.reserve - fr.held) }
    let opens : Nat → Bool := fun g => match (stored.function g).wait with
      | .budget n => decide ((n : Int) ≤ stored.headroom g)
      | .records _ => false
      | .none => false
    let opened := (Table.indices stored.functions).filter opens
    (s.port .fp).events.length + opened.length ≤ 1024 → ∃ t : State,
      exec i s = .next t ∧ s.hasAnswer t i .ok [] ∧
      t = { stored with functions := t.functions, ports := t.ports } ∧
      (∀ g, t.function g = if opens g then { stored.function g with wait := .none } else stored.function g) ∧
      s.tells t fun p => if p = .fp then opened.map fun g => .admissionOpen (some g) else []

/-- R152, R154, R156, R68: the checks of FENCE FUNCTION in their order; a fence in DRAIN mode of a function whose streams
hold no uncut sector, which completes in its step exactly when nothing of the function is outstanding; and, while
something is, the marking of the seals: every stream of the function with uncut sectors has its seal PENDING, a stream
that can make no cut stands as it is, and one that can cuts its remainder. -/
def Obligations.FenceFunctionInDrainMode : Prop :=
  ∀ (v : Via) (fn : Half) (mode : Byte) (s : State), s.reaches (.fenceFunction v fn mode) = true → s.device = .run →
    let i : Instr := .fenceFunction v fn mode
    let f := fn.toNat
    let fr := s.function f
    let fenced := s.setFunction f { fr with state := .fenced, fence := some (.drain, v.port) }
    (255 < f ∨ 1 < mode.toNat → exec i s = .next (s.answered i .range [])) ∧
    (f ≤ 255 → mode.toNat ≤ 1 → fr.state ≠ .enabled → exec i s = .next (s.answered i .state [])) ∧
    (f ≤ 255 → mode.toNat = 1 → fr.state = .enabled →
      (∀ n, (s.stream n).state ≠ .free → (s.stream n).cls = .tenant → (s.stream n).owner = f → s.uncut n = 0) →
      (fr.outstanding ≠ 0 →
        exec i s = .next ((s.setFunction f { fr with state := .fenced, fence := some (.drain, v.port) }).answered i
          .accepted [])) ∧
      (fr.outstanding = 0 → s.roomFor 1 → ∃ t : State,
        exec i s = .next t ∧ s.hasAnswer t i .accepted [] ∧
        t = { s.setFunction f { fr with state := .fenced, fence := none, violations := 0 } with ports := t.ports } ∧
        s.tells t fun p => if p = v.port then [.fenceComplete f fr.violations] else [])) ∧
    (f ≤ 255 → mode.toNat = 1 → fr.state = .enabled → fr.outstanding ≠ 0 →
      ((∀ n, s.ofFunction f n = true → 1 ≤ s.uncut n → s.blocked n) → ∃ t : State,
        exec i s = .next (t.answered i .accepted []) ∧ fenced.marks t (s.ofFunction f)) ∧
      (∀ k g slot, (∀ n, s.ofFunction f n = true ∧ 1 ≤ s.uncut n ↔ n = k) → s.uncut k ≤ s.geo.sectors →
        s.pointReady k g slot → ∃ t u : State,
          exec i s = .next t ∧ s.hasAnswer t i .accepted [] ∧ s.delivers t (fun _ => []) ∧
          fenced.marks u (s.ofFunction f) ∧ u.cuts t k g slot (s.restParts k) .disarmed))

/-- R153, R52 to R55: a fence in DISCARD mode of a function with one open stream, whose one record r has not been cut and
is its one outstanding record: its sectors are released at once, it retires DISCARDED and is FREE, and the fence
completes.The fields of a FREE record are the model's choice (log entry 23). -/
def Obligations.FenceFunctionInDiscardMode : Prop :=
  ∀ (v : Via) (fn : Half) (s : State) (k r : Nat) (serial : Word),
    s.reaches (.fenceFunction v fn 0) = true → s.device = .run → Table.canonical .powerOn s.streams = true →
    let i : Instr := .fenceFunction v fn 0
    let f := fn.toNat
    let fr := s.function f
    let st := s.stream k
    let n := (s.record r).sectors
    f ≤ 255 → fr.state = .enabled → fr.outstanding = 1 → fr.flush = .none →
    (∀ j, (s.stream j).state ≠ .free ∧ (s.stream j).cls = .tenant ∧ (s.stream j).owner = f ↔ j = k) →
    (st.state = .active ∨ st.state = .halted) → st.chain = [r] → 1 ≤ n →
    (s.record r).origin = .tenant f serial → (s.record r).stream = k → (s.record r).mark = none →
    (s.record r).placed = 0 → (s.record r).durable = 0 →
    s.supplyWait k = false → s.reports = [] → s.roomFor 2 → (∀ g, (s.function g).wait = .none) → ∃ t : State,
      exec i s = .next t ∧ s.hasAnswer t i .accepted [] ∧
      t = { s.setRecord r .powerOn with
        functions := t.functions, streams := t.streams, budget := t.budget, tenantInUse := s.tenantInUse - 1,
        ports := t.ports } ∧
      (∀ g, t.function g = if g = f then { fr with
        state := .fenced, held := fr.held - n, outstanding := 0, fence := none, violations := 0 } else s.function g) ∧
      (∀ j, t.stream j = if j = k then { st with chain := [], sealing := .disarmed } else s.stream j) ∧
      t.budget = { s.budget with total := s.budget.total - n, unused :=
        s.budget.unused + ((fr.reserve - (fr.held - n)) - (fr.reserve - fr.held)) } ∧
      s.tells t fun p => if p = .fp then [.fragmentDone (s.record r).tag k .discarded]
        else if p = v.port then [.fenceComplete f fr.violations] else []

/-- R157: UNFENCE FUNCTION makes a FENCED function with no fence in progress ENABLED, and changes nothing else. -/
def Obligations.UnfenceFunctionEnables : Prop :=
  ∀ (v : Via) (fn : Half) (s : State), s.reaches (.unfenceFunction v fn) = true →
    let i : Instr := .unfenceFunction v fn
    let f := fn.toNat
    (s.device = .config → exec i s = .next (s.answered i .notRunning [])) ∧
    (s.device = .drain ∨ s.device = .drained → exec i s = .next (s.answered i .power [])) ∧
    (s.device = .run →
      (255 < f → exec i s = .next (s.answered i .range [])) ∧
      (f ≤ 255 → (s.function f).state ≠ .fenced ∨ (s.function f).fence ≠ none →
        exec i s = .next (s.answered i .state [])) ∧
      (f ≤ 255 → (s.function f).state = .fenced → (s.function f).fence = none →
        exec i s = .next ((s.setFunction f { s.function f with state := .enabled }).answered i .ok [])))

/-! ### Writes -/

/-- R26 to R30, Table 2-3 steps 1 to 5: the checks of SUBMIT in their order. A write refused FENCED is counted; no other
refusal here changes anything. -/
def Obligations.SubmitRefusals : Prop :=
  ∀ (v : Via) (fn hint : Byte) (stream : Half) (tag : Word) (lba : Lba) (region : Byte) (offset : Word) (n : Byte)
    (s : State), s.reaches (.submit v fn hint stream tag lba region offset n) = true →
    let i : Instr := .submit v fn hint stream tag lba region offset n
    let f := fn.toNat
    let fr := s.function f
    let k := stream.toNat
    let refused (c : Code) := exec i s = .next (s.answered i c [])
    let outOfRange := n.toNat = 0 ∨ 64 < n.toNat ∨ offset.toNat % 4096 ≠ 0 ∨
      2 ^ 40 < region.toNat * 2 ^ 32 + offset.toNat + n.toNat * 4096 ∨ 2 ^ 48 < lba.toNat + n.toNat ∨
      (v.port = .fp ∧ 7 < hint.toNat) ∨ (v.port = .rp ∧ 1023 < k)
    (s.device = .config → refused .notRunning) ∧
    (s.device = .drain ∨ s.device = .drained → refused .power) ∧
    (s.device = .run → outOfRange → refused .range) ∧
    (s.device = .run → ¬ outOfRange → v.port = .fp →
      (fr.state = .disabled → refused .disabled) ∧
      (fr.state = .fenced →
        exec i s = .next ((s.setFunction f { fr with violations := min (fr.violations + 1) 65535 }).answered i .fenced [])) ∧
      (fr.state = .enabled → s.binding f hint.toNat = none → refused .unbound)) ∧
    (s.device = .run → ¬ outOfRange → v.port = .rp → (s.stream k).state = .free ∨ (s.stream k).cls = .tenant →
      refused .unbound)

/-- R30, R31, R32, R34, Table 2-3 steps 6 to 10 on FP: what the resolved stream, the record partition and the headroom
refuse. A refusal for records or budget replaces the function's wait state. -/
def Obligations.SubmitHoldsATenantWrite : Prop :=
  ∀ (v : Via) (fn hint : Byte) (stream : Half) (tag : Word) (lba : Lba) (region : Byte) (offset : Word) (n : Byte)
    (s : State) (k : Nat), s.reaches (.submit v fn hint stream tag lba region offset n) = true → s.device = .run →
    submitOutOfRange v.port hint stream lba region offset n = false → v.port = .fp →
    let i : Instr := .submit v fn hint stream tag lba region offset n
    let f := fn.toNat
    let fr := s.function f
    let st := s.stream k
    let refused (c : Code) := exec i s = .next (s.answered i c [])
    let openFor := st.state = .idle ∨ st.state = .active ∨ st.state = .waitSupply
    let headroom : Int := min ((fr.cap : Int) - fr.held)
      ((s.limits.holdUp : Int) - s.budget.total - s.budget.unused + max 0 ((fr.reserve : Int) - fr.held))
    fr.state = .enabled → s.binding f hint.toNat = some k →
    (st.state = .halted → refused .halted) ∧
    (st.state = .draining → refused .closing) ∧
    (openFor → st.intake = .hold → refused .holdStream) ∧
    (openFor → st.intake = .accept →
      (4096 - s.limits.reclaimRecords ≤ s.tenantInUse →
        exec i s = .next ((s.setFunction f { fr with wait := .records n.toNat }).answered i .holdRecords [])) ∧
      (s.tenantInUse < 4096 - s.limits.reclaimRecords → (∃ r, r < 4096 ∧ (s.record r).condition = .free) →
        headroom < n.toNat →
        exec i s = .next ((s.setFunction f { fr with wait := .budget n.toNat }).answered i .holdBudget [])))

/-- R35, R46, R49, R66, R37: an admitted TENANT write: the budget, the function's counts and serial, the record with the
lowest free number at the chain's tail, and the seal armed when the uncut count grew from 0. With no cut due, T below HW
names no stream; T at or above HW names one (R37), whose seal becomes PENDING, and which cuts its remainder where it
can. A write that brings the uncut count to a unit makes a cut due: the unit is cut where the stream can, and the seal
is set for what is left. -/
def Obligations.SubmitAdmitsATenantWrite : Prop :=
  ∀ (v : Via) (fn hint : Byte) (stream : Half) (tag : Word) (lba : Lba) (region : Byte) (offset : Word) (n : Byte)
    (s : State) (k r : Nat), s.reaches (.submit v fn hint stream tag lba region offset n) = true → s.device = .run →
    submitOutOfRange v.port hint stream lba region offset n = false → v.port = .fp →
    let i : Instr := .submit v fn hint stream tag lba region offset n
    let f := fn.toNat
    let fr := s.function f
    let st := s.stream k
    let m := n.toNat
    let fresh : Seal := if fr.timeout = 0 then .disarmed else .armed (s.tick + BitVec.ofNat 32 fr.timeout)
    let admitted (sl : Seal) : State := (((({ s with tenantInUse := s.tenantInUse + 1 }.setBudget { s.budget with
        total := s.budget.total + m, unused := s.budget.unused - min m (fr.reserve - fr.held) }).setFunction f { fr with
        held := fr.held + m, serial := fr.serial + 1, outstanding := fr.outstanding + 1 }).setRecord r
      { condition := .chained, stream := k, origin := .tenant f fr.serial, tag := tag, lba := lba, region := region,
        offset := offset, sectors := m, placed := 0, durable := 0, mark := none, admitted := s.tick }).setStream k
      { st with chain := st.chain ++ [r], sealing := sl })
    let response := two k ++ bytes32 fr.serial
    let quiet := s.limits.highWater = 0 ∨ s.budget.total + m < s.limits.highWater
    fr.state = .enabled → fr.flush = .none → fr.timeout ≤ 2000 → s.binding f hint.toNat = some k →
    (st.state = .idle ∨ st.state = .active ∨ st.state = .waitSupply) → st.intake = .accept → st.cls = .tenant →
    st.owner = f → s.tenantInUse < 4096 - s.limits.reclaimRecords →
    r < 4096 → (s.record r).condition = .free → (∀ x, x < r → (s.record x).condition ≠ .free) → r ∉ st.chain →
    fr.held + m ≤ fr.cap → s.budget.total + m + s.budget.unused ≤ s.limits.holdUp + (fr.reserve - fr.held) →
    (s.uncut k + m < s.geo.sectors → (1 ≤ s.uncut k → st.sealing ≠ .pending) →
      let t := admitted (if s.uncut k = 0 then fresh else st.sealing)
      (quiet → exec i s = .next (t.answered i .admitted response)) ∧
      (¬ quiet → t.pressureStream = none → exec i s = .next (t.answered i .admitted response)) ∧
      (¬ quiet → ∀ j, t.pressureStream = some j →
        let named := t.setStream j { t.stream j with sealing := .pending }
        (t.blocked j → exec i s = .next (named.answered i .admitted response)) ∧
        (∀ g slot, t.pointReady j g slot → t.uncut j ≤ s.geo.sectors → ∃ w : State,
          exec i s = .next w ∧ s.hasAnswer w i .admitted response ∧ s.delivers w (fun _ => []) ∧
          named.cuts w j g slot (t.restParts j) .disarmed))) ∧
    (s.uncut k < s.geo.sectors → s.geo.sectors ≤ s.uncut k + m → s.uncut k + m < 2 * s.geo.sectors → quiet →
      ∀ g slot, s.pointReady k g slot → ∃ w : State,
        exec i s = .next w ∧ s.hasAnswer w i .admitted response ∧ s.delivers w (fun _ => []) ∧
        (admitted fresh).cuts w k g slot (s.restParts k ++ [(r, s.geo.sectors - s.uncut k)])
          (if s.uncut k + m = s.geo.sectors then .disarmed else fresh))

/-- R31, R33, R34, R36: a RECLAIM write for which the partition has a record passes exactly when reclaim held + n ≤
Hr. An admission that makes no cut due raises reclaim held and changes no function and not T or Ru; a refusal sets the
reclaim wait state. -/
def Obligations.SubmitOnTheReclaimPort : Prop :=
  ∀ (v : Via) (fn hint : Byte) (stream : Half) (tag : Word) (lba : Lba) (region : Byte) (offset : Word) (n : Byte)
    (s : State) (r : Nat), s.reaches (.submit v fn hint stream tag lba region offset n) = true → s.device = .run →
    submitOutOfRange v.port hint stream lba region offset n = false → v.port = .rp →
    let i : Instr := .submit v fn hint stream tag lba region offset n
    let k := stream.toNat
    let st := s.stream k
    let m := n.toNat
    let refused (c : Code) := exec i s = .next (s.answered i c [])
    st.cls = .reclaim →
    (st.state = .halted → refused .halted) ∧
    (st.state = .draining → refused .closing) ∧
    (st.state = .idle ∨ st.state = .active ∨ st.state = .waitSupply →
      (st.intake = .hold → refused .holdStream) ∧
      (st.intake = .accept → s.limits.reclaimRecords ≤ s.reclaimInUse →
        exec i s = .next ((s.setBudget { s.budget with reclaimWait := .records m }).answered i .holdRecords [])) ∧
      (st.intake = .accept → s.reclaimInUse < s.limits.reclaimRecords →
        r < 4096 → (s.record r).condition = .free → (∀ x, x < r → (s.record x).condition ≠ .free) → r ∉ st.chain →
        (s.limits.reclaimHeld < s.budget.reclaimHeld + m →
          exec i s = .next ((s.setBudget { s.budget with reclaimWait := .budget m }).answered i .holdBudget [])) ∧
        (s.budget.reclaimHeld + m ≤ s.limits.reclaimHeld → s.limits.reclaimTimeout ≤ 2000 →
          s.uncut k + m < s.geo.sectors → (1 ≤ s.uncut k → st.sealing ≠ .pending) →
          exec i s = .next (((({ s with reclaimInUse := s.reclaimInUse + 1 }.setBudget { s.budget with
              reclaimHeld := s.budget.reclaimHeld + m }).setRecord r
            { condition := .chained, stream := k, origin := .reclaim, tag := tag, lba := lba, region := region,
              offset := offset, sectors := m, placed := 0, durable := 0, mark := none, admitted := s.tick }).setStream k
            { st with chain := st.chain ++ [r], sealing :=
              if s.uncut k = 0 then (if s.limits.reclaimTimeout = 0 then .disarmed
                else .armed (s.tick + BitVec.ofNat 32 s.limits.reclaimTimeout))
              else st.sealing }).answered i .admitted (two k ++ [0, 0, 0, 0])))))

/-- R37: the stream named for a pressure seal is a candidate of the greatest age, the one of lowest index among equals;
none is named exactly when there is no candidate. -/
def Obligations.PressureNamesTheOldest : Prop :=
  ∀ s : State, Table.canonical .powerOn s.streams = true →
    let candidate := fun i => (s.stream i).cls = .tenant ∧ (s.stream i).state ≠ .free ∧ (s.stream i).state ≠ .halted ∧
      1 ≤ s.uncut i ∧ (s.stream i).sealing ≠ .pending
    (∀ i, s.pressureStream = some i ↔
      candidate i ∧ ∀ j, candidate j → s.uncutAge j < s.uncutAge i ∨ (s.uncutAge j = s.uncutAge i ∧ i ≤ j)) ∧
    (s.pressureStream = none ↔ ∀ i, ¬ candidate i)

/-- R149, R150, R68: the checks of FLUSH FUNCTION in their order; an accepted flush of a function whose streams hold no
uncut sector: it waits while a CHAINED record of the function has an earlier serial, and otherwise completes at once; and,
while it waits, the marking of the seals: every stream of the function with uncut sectors has its seal PENDING, a stream
that can make no cut stands as it is, and one that can cuts its remainder. -/
def Obligations.FlushFunctionWaitsForOlderRecords : Prop :=
  ∀ (v : Via) (fn : Half) (tag : Word) (s : State), s.reaches (.flushFunction v fn tag) = true → s.device = .run →
    let i : Instr := .flushFunction v fn tag
    let f := fn.toNat
    let fr := s.function f
    let flushing := s.setFunction f { fr with flush := .pending fr.serial tag }
    let older := ∃ r a, (s.record r).condition = .chained ∧ (s.record r).origin = .tenant f a ∧
      1 ≤ (fr.serial - a).toNat ∧ (fr.serial - a).toNat < 2 ^ 31
    (255 < f → exec i s = .next (s.answered i .range [])) ∧
    (f ≤ 255 → fr.state = .disabled → exec i s = .next (s.answered i .disabled [])) ∧
    (f ≤ 255 → fr.state ≠ .disabled → fr.flush ≠ .none → exec i s = .next (s.answered i .state [])) ∧
    (f ≤ 255 → fr.state ≠ .disabled → fr.flush = .none → Table.canonical .powerOn s.records = true →
      (∀ n, (s.stream n).state ≠ .free → (s.stream n).cls = .tenant → (s.stream n).owner = f → s.uncut n = 0) →
      (older → exec i s =
        .next ((s.setFunction f { fr with flush := .pending fr.serial tag }).answered i .accepted [])) ∧
      (¬ older → s.reports = [] → s.roomFor 1 → ∃ t : State,
        exec i s = .next t ∧ s.hasAnswer t i .accepted [] ∧ t = { s with ports := t.ports } ∧
        s.tells t fun p => if p = .fp then [.flushDone f tag] else [])) ∧
    (f ≤ 255 → fr.state ≠ .disabled → fr.flush = .none → Table.canonical .powerOn s.records = true → older →
      ((∀ n, s.ofFunction f n = true → 1 ≤ s.uncut n → s.blocked n) → ∃ t : State,
        exec i s = .next (t.answered i .accepted []) ∧ flushing.marks t (s.ofFunction f)) ∧
      (∀ k g slot, (∀ n, s.ofFunction f n = true ∧ 1 ≤ s.uncut n ↔ n = k) → s.uncut k ≤ s.geo.sectors →
        s.pointReady k g slot → ∃ t u : State,
          exec i s = .next t ∧ s.hasAnswer t i .accepted [] ∧ s.delivers t (fun _ => []) ∧
          flushing.marks u (s.ofFunction f) ∧ u.cuts t k g slot (s.restParts k) .disarmed))

/-! ### Dispatch -/

/-- R74 to R76: the checks of SUPPLY, and of an entry, in their order; and a taken entry for which no stream waits:
the segment is FREE at the tail of its die's queue, and the supply-low mark is cleared at the low-water mark. The
layout of the response is the model's reading of section 11.1 (log entry 33). -/
def Obligations.SupplyTakesASegment : Prop :=
  ∀ (v : Via) (e : SegmentName) (s : State), s.reaches (.supply v [e]) = true → s.device ≠ .drained →
    let i : Instr := .supply v [e]
    let d := e.die.toNat
    let b := e.block.toNat
    let g : Seg := ⟨d, b⟩
    let die := s.die d
    let entryRefused (c : Code) := exec i s = .next (s.answered i .ok [0, 0, 1, c.byte])
    let known := d < s.geo.dies ∧ b < s.geo.blocks
    let mine := ∃ c, portCore v.port = some c ∧ die.assigned = some c
    (s.control.locked = false → exec i s = .next (s.answered i .state [])) ∧
    (s.control.locked = true →
      (¬ known → entryRefused .range) ∧
      (known → ¬ mine → entryRefused .notPermitted) ∧
      (known → mine → (s.segment g).state ≠ .untracked → entryRefused .state) ∧
      (known → mine → (s.segment g).state = .untracked → 32 ≤ die.freeQueue.length → entryRefused .full) ∧
      (known → mine → (s.segment g).state = .untracked → die.freeQueue.length < 32 →
        (∀ n ∈ s.waitSupply, (s.stream n).mask.getLsbD d = false) →
        exec i s = .next (((s.setSegment g { Segment.powerOn with state := .free }).setDie d { die with
          freeQueue := die.freeQueue ++ [b],
          supplyLow := if s.limits.lowWater ≤ die.freeQueue.length + 1 then false else die.supplyLow }).answered i .ok
            [1, 0, 1, 0])))

/-- R101: a plain TAKE BATCH gives the batch at the head of its core's queue, TAKEN with a new deadline, and changes no
count; an empty queue answers OK with no batch. -/
def Obligations.TakeBatchTakesTheHead : Prop :=
  ∀ (v : Via) (c : Core) (s : State), s.reaches (.takeBatch v) = true → s.working = true → portCore v.port = some c →
    (s.queues.at (.core c) = [] → exec (.takeBatch v) s = .next (s.answered (.takeBatch v) .ok [])) ∧
    (∀ n rest b, s.queues.at (.core c) = n :: rest → (s.slot n).batch = some b →
      let deadline := s.tick + BitVec.ofNat 32 s.limits.batchDeadline
      exec (.takeBatch v) s = .next (({ s with queues := s.queues.put (.core c) rest }.setSlot n { s.slot n with
        batch := some { b with phase := .taken deadline, place := .core c, overdue := false } }).answered (.takeBatch v) .ok
          (batchRecord n (s.slot n).gen deadline b)))

/-- R100, R102: a repeat TAKE BATCH gives a batch the core holds again and changes nothing; every other ticket is STALE,
and a slot above 511 RANGE. -/
def Obligations.RepeatTakeGivesTheSameBatch : Prop :=
  ∀ (v : Via) (slot : Half) (gen : Byte) (s : State), s.reaches (.takeBatchRepeat v slot gen) = true → s.working = true →
    let i : Instr := .takeBatchRepeat v slot gen
    let n := slot.toNat
    let holds := fun b deadline => (s.slot n).batch = some b ∧ (s.slot n).gen = gen ∧ b.phase = .taken deadline ∧
      ∃ c, portCore v.port = some c ∧ b.place = .core c
    (511 < n → exec i s = .next (s.answered i .range [])) ∧
    (n ≤ 511 → ∀ b deadline, holds b deadline →
      exec i s = .next (s.answered i .ok (batchRecord n gen deadline b))) ∧
    (n ≤ 511 → (¬ ∃ b deadline, holds b deadline) → exec i s = .next (s.answered i .stale []))

/-- R103: a BATCH RESULT that fails a check changes nothing: RANGE, then STALE, then ORDER. -/
def Obligations.ResultRefusals : Prop :=
  ∀ (v : Via) (slot : Half) (gen result : Byte) (s : State) (i : Instr),
    (i = .batchResultDone v slot gen ∧ result = 0 ∨ i = .batchResultFailed v slot gen result) →
    s.reaches i = true →
    let n := slot.toNat
    let refused (c : Code) := exec i s = .next (s.answered i c [])
    let holds := fun b deadline => (s.slot n).batch = some b ∧ (s.slot n).gen = gen ∧ b.phase = .taken deadline ∧
      ∃ c, portCore v.port = some c ∧ b.place = .core c
    (s.device = .config → refused .notRunning) ∧
    (s.device = .drained → refused .power) ∧
    (s.working = true → 511 < n ∨ 1 < result.toNat → refused .range) ∧
    (s.working = true → n ≤ 511 → result.toNat ≤ 1 →
      ((¬ ∃ b deadline, holds b deadline) → refused .stale) ∧
      (∀ b deadline, holds b deadline → b.unit ≠ (s.segment b.seg).doneUnits → refused .order))

/-- R106 to R110, R51, R38, R39, R89: an accepted DONE whose one record is not yet wholly durable: the segment advances,
the record gains the sectors, they are released (from the function's held sectors and T, or from reclaim held, which may
open the reclaim wait), the batch's flight ends, and the stream cuts nothing. The DONE of the last unit of a FILLED
segment closes it. The widths of the response's fields are the model's reading of section 11.1 (log entry 9). -/
def Obligations.DoneAdvancesTheSegment : Prop :=
  ∀ (v : Via) (slot : Half) (gen : Byte) (s : State) (c : Core) (b : Batch) (deadline : Word) (e : Extent)
    (behind : List Nat), s.reaches (.batchResultDone v slot gen) = true → s.device = .run →
    let i : Instr := .batchResultDone v slot gen
    let n := slot.toNat
    let k := b.stream
    let st := s.stream k
    let fr := s.function st.owner
    let seg := s.segment b.seg
    let die := s.die b.seg.die
    let rec' := s.record e.record
    let response (state : Nat) := segField b.seg ++ two b.unit ++ two (b.unit + 1) ++ [BitVec.ofNat 8 state] ++
      two (st.inFlight - 1) ++ [0, 0]
    n ≤ 511 → portCore v.port = some c →
    (s.slot n).batch = some b → (s.slot n).gen = gen → b.phase = .taken deadline → b.place = .core c →
    b.unit = seg.doneUnits → b.extents = [e] → st.chain = e.record :: behind →
    rec'.durable + e.sectors < rec'.mark.getD rec'.sectors →
    die.slotWait = [] → die.assigned = some c → (s.uncut k = 0 ∨ (s.uncut k < s.geo.sectors ∧ st.sealing ≠ .pending)) →
    (seg.state = .opened → st.state = .active → st.cls = .tenant → fr.state = .enabled →
      (∀ f, (s.function f).wait = .none) →
      exec i s = .next ((((((((s.setSegment b.seg { seg with
          doneUnits := seg.doneUnits + 1, written := seg.written + b.real, valid := seg.valid + b.real }).setRecord e.record
        { rec' with durable := rec'.durable + e.sectors }).setFunction st.owner { fr with held := fr.held - b.real }).setBudget
        { s.budget with total := s.budget.total - b.real, unused :=
          s.budget.unused + ((fr.reserve - (fr.held - b.real)) - (fr.reserve - fr.held)) }).setStream k
        { st with inFlight := st.inFlight - 1, failures := 0, batchesDone := st.batchesDone + 1 }).setDie b.seg.die
        { die with inFlight := die.inFlight - 1 }).freeSlot n).answered i .ok (response 2))) ∧
    (seg.state = .filled → s.geo.units = seg.doneUnits + 1 → seg.owner = some k → st.writePoint = none →
      st.finishing = some b.seg → st.state = .idle ∨ st.state = .active → st.cls = .tenant → fr.state = .enabled →
      (∀ f, (s.function f).wait = .none) → ∃ t : State,
        exec i s = .next t ∧ s.hasAnswer t i .ok (response 4) ∧
        t = { (((((s.setSegment b.seg { seg with
            state := .closed, nextUnit := seg.doneUnits + 1, doneUnits := seg.doneUnits + 1, closeSeq := s.closeSeq + 1
            written := seg.written + b.real, valid := seg.valid + b.real }).setRecord e.record
          { rec' with durable := rec'.durable + e.sectors }).setFunction st.owner
            { fr with held := fr.held - b.real }).setStream k
          { st with inFlight := st.inFlight - 1, failures := 0, batchesDone := st.batchesDone + 1
                    finishing := none }).setDie b.seg.die
          { die with inFlight := die.inFlight - 1 }).freeSlot n with
          budget := { s.budget with total := s.budget.total - b.real, unused :=
            s.budget.unused + ((fr.reserve - (fr.held - b.real)) - (fr.reserve - fr.held)) }
          closeSeq := s.closeSeq + 1, ports := t.ports } ∧
        s.delivers t fun p =>
          if p = .rp ∨ p = c.port then [.segmentClosed b.seg (some k) seg.short seg.failed] else []) ∧
    (seg.state = .opened → st.state = .active → st.cls = .reclaim →
      let held := s.budget.reclaimHeld - b.real
      let opens : Bool := match s.budget.reclaimWait with
        | .budget x => held + x ≤ s.limits.reclaimHeld
        | .records _ => false
        | .none => false
      ∃ t : State,
        exec i s = .next t ∧ s.hasAnswer t i .ok (response 2) ∧
        t = { ((((s.setSegment b.seg { seg with
            doneUnits := seg.doneUnits + 1, written := seg.written + b.real, valid := seg.valid + b.real }).setRecord e.record
          { rec' with durable := rec'.durable + e.sectors }).setStream k
          { st with inFlight := st.inFlight - 1, failures := 0, batchesDone := st.batchesDone + 1 }).setDie b.seg.die
          { die with inFlight := die.inFlight - 1 }).freeSlot n with
          budget := { s.budget with
            reclaimHeld := held, reclaimWait := if opens then .none else s.budget.reclaimWait }
          ports := t.ports } ∧
        s.delivers t fun p => if p = .rp ∧ opens = true then [.admissionOpen none] else [])

/-- R51, R54, R55, R107: a DONE that makes the one record of a stream wholly durable retires it: FRAGMENT DONE with
DURABLE is queued on FP, the record is FREE, and the counts that held it fall. The widths of the response's fields are
the model's reading of section 11.1 (log entry 9), and the fields of a FREE record are its choice (log entry 23). -/
def Obligations.DoneRetiresTheRecord : Prop :=
  ∀ (v : Via) (slot : Half) (gen : Byte) (s : State) (c : Core) (b : Batch) (deadline : Word) (e : Extent)
    (serial : Word), s.reaches (.batchResultDone v slot gen) = true → s.device = .run →
    let i : Instr := .batchResultDone v slot gen
    let n := slot.toNat
    let k := b.stream
    let st := s.stream k
    let fr := s.function st.owner
    let seg := s.segment b.seg
    let die := s.die b.seg.die
    let rec' := s.record e.record
    n ≤ 511 → portCore v.port = some c →
    (s.slot n).batch = some b → (s.slot n).gen = gen → b.phase = .taken deadline → b.place = .core c →
    b.unit = seg.doneUnits → seg.state = .opened → b.extents = [e] →
    st.state = .active → st.cls = .tenant → st.chain = [e.record] →
    rec'.origin = .tenant st.owner serial → rec'.stream = k → rec'.mark = none → rec'.placed = rec'.sectors →
    rec'.durable + e.sectors = rec'.sectors →
    fr.state = .enabled → fr.fence = none → fr.flush = .none → (∀ f, (s.function f).wait = .none) →
    die.slotWait = [] → die.assigned = some c → s.reports = [] → s.roomFor 1 → ∃ t : State,
      exec i s = .next t ∧ s.hasAnswer t i .ok
        (segField b.seg ++ two b.unit ++ two (b.unit + 1) ++ [2] ++ two (st.inFlight - 1) ++ [1, 0]) ∧
      t = { (((((s.setSegment b.seg { seg with
          doneUnits := seg.doneUnits + 1, written := seg.written + b.real, valid := seg.valid + b.real }).setRecord e.record
        .powerOn).setFunction st.owner { fr with
          held := fr.held - b.real, outstanding := fr.outstanding - 1 }).setStream k
        { st with inFlight := st.inFlight - 1, failures := 0, batchesDone := st.batchesDone + 1, chain := [] }).setDie
          b.seg.die { die with inFlight := die.inFlight - 1 }).freeSlot n with
        budget := { s.budget with total := s.budget.total - b.real, unused :=
          s.budget.unused + ((fr.reserve - (fr.held - b.real)) - (fr.reserve - fr.held)) }
        tenantInUse := s.tenantInUse - 1
        ports := t.ports } ∧
      s.tells t fun p => if p = .fp then [.fragmentDone rec'.tag k .durable] else []

/-- R114 to R119, R53, R88, R91: a FAILED result. At the failure limit, for the one batch in flight of a stream: the chain
rewinds, the segment closes short with F, and the stream is HALTED. Below the limit, with the later batches of the stream
in flight: all of them are withdrawn with it and their tickets listed in unit order, the records from the cut point on are
rewound, the segment closes short with F, and the stream goes on IDLE with a failure more, here with less than a unit
uncut and no seal timeout, so that no cut is due. The widths of the response's fields are the model's reading of section
11.1 (log entry 9), and the point at which the stream is HALTED of section 6.2 (log entry 16). -/
def Obligations.FailedHaltsTheStream : Prop :=
  ∀ (v : Via) (slot : Half) (gen : Byte) (s : State) (c : Core) (b : Batch) (deadline : Word) (e : Extent),
    s.reaches (.batchResultFailed v slot gen 1) = true → s.device = .run → Table.canonical .powerOn s.slots = true →
    let i : Instr := .batchResultFailed v slot gen 1
    let n := slot.toNat
    let k := b.stream
    let st := s.stream k
    let fr := s.function st.owner
    let seg := s.segment b.seg
    let die := s.die b.seg.die
    let rec' := s.record e.record
    let sector := (e.lba - rec'.lba).toNat
    let closed := { seg with state := .closed, nextUnit := seg.doneUnits, closeSeq := s.closeSeq + 1,
                             short := decide (seg.doneUnits < s.geo.units) || seg.short, failed := true }
    n ≤ 511 → portCore v.port = some c →
    (s.slot n).batch = some b → (s.slot n).gen = gen → b.phase = .taken deadline → b.place = .core c →
    b.unit = seg.doneUnits → seg.state = .opened → seg.owner = some k →
    st.state = .active → st.cls = .tenant → st.writePoint = some b.seg → st.finishing = none →
    die.slotWait = [] → die.assigned = some c →
    ((∀ m, (∃ x, (s.slot m).batch = some x ∧ x.stream = k) → m = n) → b.extents = [e] → st.chain = [e.record] →
      s.limits.failureLimit ≤ st.failures + 1 → s.roomFor 2 → ∃ t : State,
      exec i s = .next t ∧ s.hasAnswer t i .ok (segField b.seg ++ two b.unit ++ [0] ++ two (st.failures + 1) ++ [5]) ∧
      t = { ((((s.freeSlot n).setSegment b.seg closed).setRecord e.record
          { rec' with placed := (e.lba - rec'.lba).toNat }).setDie b.seg.die
          { die with inFlight := die.inFlight - 1, openPoints := die.openPoints - 1 }).setStream k
          { st with state := .halted, requester := none, writePoint := none, inFlight := st.inFlight - 1,
                    failures := st.failures + 1, sealing := t.sealFor k } with
        closeSeq := s.closeSeq + 1, waitSupply := s.waitSupply.filter (· ≠ k), ports := t.ports } ∧
      s.tells t fun p =>
        (if p = .rp ∨ p = c.port then [.segmentClosed b.seg (some k) closed.short true] else []) ++
        (if p = .rp then [] else [.streamHalted k (some st.owner)])) ∧
    (∀ (later : List Nat) (more : List Extent) (front behind : List Nat),
      (∀ m, (∃ x, (s.slot m).batch = some x ∧ x.stream = k) ↔ m = n ∨ m ∈ later) →
      (n :: later).Pairwise (fun x y => s.unitOf x < s.unitOf y) → b.extents = e :: more →
      st.chain = front ++ e.record :: behind → st.chain.Nodup → st.failures + 1 < s.limits.failureLimit →
      fr.state = .enabled → fr.flush = .none → fr.timeout = 0 →
      (front.map fun r => (s.record r).uncut).sum + (rec'.stop - sector) +
        (behind.map fun r => (s.record r).stop).sum < s.geo.sectors →
      let stays : Nat → Bool := fun m => decide (m ≠ n) && !later.contains m
      ∃ t : State,
      exec i s = .next t ∧ s.hasAnswer t i .ok (segField b.seg ++ two b.unit ++
        (one later.length ++ later.flatMap fun m => two m ++ [(s.slot m).gen]) ++ two (st.failures + 1) ++ [1]) ∧
      t = { ((s.setSegment b.seg closed).setDie b.seg.die { die with
            inFlight := die.inFlight - (1 + later.length), openPoints := die.openPoints - 1 }).setStream k
          { st with state := .idle, writePoint := none, inFlight := st.inFlight - (1 + later.length),
                    failures := st.failures + 1, sealing := .disarmed } with
          records := t.records, slots := t.slots, closeSeq := s.closeSeq + 1, ports := t.ports
          queues := { core0 := s.queues.core0.filter stays, core1 := s.queues.core1.filter stays
                      parked := s.queues.parked.filter stays } } ∧
      (∀ m, t.slot m = if m = n ∨ m ∈ later then { gen := (s.slot m).gen + 1, batch := none } else s.slot m) ∧
      (∀ r, t.record r = if r = e.record then { rec' with placed := sector }
        else if r ∈ behind then { s.record r with placed := 0 } else s.record r) ∧
      s.delivers t fun p =>
        if p = .rp ∨ p = c.port then [.segmentClosed b.seg (some k) closed.short true] else [])

/-! ### Occupancy -/

/-- R131, R132: the checks of INVALIDATE, and one entry: a tracked segment loses the count, or underflows to 0 with its N
flag set; any other segment is not tracked. -/
def Obligations.InvalidateLowersTheValidCount : Prop :=
  ∀ (v : Via) (entries : List StaleEntry) (s : State), s.reaches (.invalidate v entries) = true → s.working = true →
    let i : Instr := .invalidate v entries
    let known := fun e : StaleEntry => e.die.toNat < s.geo.dies ∧ e.block.toNat < s.geo.blocks ∧ 1 ≤ e.count.toNat
    (entries.length < 1 ∨ 32 < entries.length ∨ (∃ e ∈ entries, ¬ known e) → exec i s = .next (s.answered i .range [])) ∧
    (∀ e, entries = [e] → known e →
      let g : Seg := ⟨e.die.toNat, e.block.toNat⟩
      let seg := s.segment g
      let x := e.count.toNat
      let tracked := seg.state = .opened ∨ seg.state = .filled ∨ seg.state = .closed ∨ seg.state = .victim
      (tracked → x ≤ seg.valid →
        exec i s = .next ((s.setSegment g { seg with valid := seg.valid - x }).answered i .ok [1, 0, 0, 0, 0, 0])) ∧
      (tracked → seg.valid < x → exec i s =
        .next ((s.setSegment g { seg with valid := 0, suspect := true }).answered i .ok [0, 0, 1, 0, 0, 0])) ∧
      (¬ tracked → Table.canonical .powerOn s.segments = true →
        exec i s = .next (s.answered i .ok [0, 0, 0, 0, 1, 0])))

/-- R137: the two scores, their range, and the AGED score at its corners. -/
def Obligations.ScoresFollowThePolicy : Prop :=
  (∀ u a, u ≤ 65535 → a ≤ 65535 →
    score .greedy u a = 65535 - u ∧ score .aged u a = (65536 - u) * a / (65536 + u) ∧
    score .greedy u a ≤ 65535 ∧ score .aged u a ≤ 65535 ∧
    score .aged 0 a = a ∧ score .aged 65535 a = 0 ∧ score .aged u 0 = 0) ∧
  (∀ (s : State) (p : Policy) (g : Seg), (s.nominee p g).u ≤ 65535 ∧ (s.nominee p g).score ≤ 65535 ∧
    (s.nominee p g).score = score p (s.nominee p g).u (s.nominee p g).a)

/-- R135 to R140: NOMINATE refuses RANGE a policy, a filter, a count or a scope that is not in range; otherwise it makes
the first `count` candidates in rank order VICTIM, and lists them in that order with their score, utilization, valid
count, age and flags; no other segment changes. -/
def Obligations.NominateTakesTheFirstInRank : Prop :=
  ∀ (v : Via) (scope policy filter count : Byte) (s : State),
    s.reaches (.nominate v scope policy filter count) = true → s.device = .run →
    let i : Instr := .nominate v scope policy filter count
    (1 < policy.toNat ∨ 3 < filter.toNat ∨ count.toNat < 1 ∨ 8 < count.toNat ∨ (scope ≠ 0xFF ∧ s.geo.dies ≤ scope.toNat) →
      exec i s = .next (s.answered i .range [])) ∧
    ∀ (pol : Policy) (cls : Option SegmentClass), policyOf policy = some pol →
    classFilterOf filter = some cls → 1 ≤ count.toNat → count.toNat ≤ 8 →
    (scope = 0xFF ∨ scope.toNat < s.geo.dies) → Table.canonical .powerOn s.segments = true → 1 ≤ s.geo.blocks →
    let candidate := fun g : Seg => g.block < s.geo.blocks ∧ (s.segment g).state = .closed ∧
      (scope = 0xFF ∨ g.die = scope.toNat) ∧ (cls = none ∨ cls = some (s.segment g).cls)
    let ahead := fun x y : Nominee => (x.zero = true ∧ y.zero = false) ∨ (x.zero = y.zero ∧
      (y.score < x.score ∨ (x.score = y.score ∧ (y.a < x.a ∨ (x.a = y.a ∧
        (x.seg.die < y.seg.die ∨ (x.seg.die = y.seg.die ∧ x.seg.block < y.seg.block)))))))
    let figures := fun n : Nominee =>
      let seg := s.segment n.seg
      let quotient := seg.valid * 65536 / (s.geo.units * s.geo.sectors)
      let age := (s.closeSeq - seg.closeSeq).toNat
      n.v = seg.valid ∧ n.u = min quotient 65535 ∧ n.clamped = decide (65535 < quotient) ∧ n.a = min age 65535 ∧
      n.old = decide (65535 < age) ∧ n.zero = decide (seg.valid = 0) ∧ n.suspect = seg.suspect ∧
      n.failed = seg.failed ∧
      n.score = match pol with
        | .greedy => 65535 - n.u
        | .aged => (65536 - n.u) * n.a / (65536 + n.u)
    ∃ (chosen : List Nominee) (t : State),
      exec i s = .next (t.answered i .ok (one chosen.length ++ chosen.flatMap fun n => fieldBytes
        [(1, n.seg.die), (2, n.seg.block), (2, n.score), (2, n.u), (2, n.v), (2, n.a),
         (1, bitsOf [n.zero, n.clamped, n.old, n.suspect, n.failed])])) ∧
      t = { s with segments := t.segments } ∧
      chosen.length ≤ count.toNat ∧ chosen.Pairwise ahead ∧
      (∀ n ∈ chosen, candidate n.seg ∧ n = s.nominee pol n.seg ∧ figures n) ∧
      (∀ g, candidate g → (∀ n ∈ chosen, n.seg ≠ g) →
        chosen.length = count.toNat ∧ ∀ n ∈ chosen, ahead n (s.nominee pol g)) ∧
      (∀ g, g.block < s.geo.blocks → t.segment g =
        if ∃ n ∈ chosen, n.seg = g then { s.segment g with state := .victim } else s.segment g)

/-- R144, R145, R146, R147: RETURN makes a VICTIM CLOSED and again a candidate; RELEASE makes a VICTIM with no valid sector
UNTRACKED and tells its die's core; RETIRE takes an UNTRACKED, CLOSED or VICTIM segment out of use. Every other state is
refused, and a segment the geometry does not have is RANGE.The response for a segment already RETIRED is the model's
reading of R147 (log entry 29). -/
def Obligations.VictimsAreReturnedReleasedOrRetired : Prop :=
  ∀ (v : Via) (g : SegmentName) (s : State), s.working = true →
    let x : Seg := ⟨g.die.toNat, g.block.toNat⟩
    let seg := s.segment x
    let known := x.die < s.geo.dies ∧ x.block < s.geo.blocks
    (∀ i, (i = .returnSegment v g ∨ i = .releaseSegment v g ∨ i = .retireSegment v g) → s.reaches i = true → ¬ known →
      exec i s = .next (s.answered i .range [])) ∧
    (s.reaches (.returnSegment v g) = true → known →
      (seg.state = .victim → ∃ t : State,
        t = s.setSegment x { seg with state := .closed } ∧ t.candidate none none x = true ∧
        exec (.returnSegment v g) s = .next (t.answered (.returnSegment v g) .ok [])) ∧
      (seg.state ≠ .victim → exec (.returnSegment v g) s = .next (s.answered (.returnSegment v g) .state []))) ∧
    (s.reaches (.releaseSegment v g) = true → known →
      (seg.state ≠ .victim → exec (.releaseSegment v g) s = .next (s.answered (.releaseSegment v g) .state [])) ∧
      (seg.state = .victim → 1 ≤ seg.valid →
        exec (.releaseSegment v g) s = .next (s.answered (.releaseSegment v g) .validRemaining (two seg.valid))) ∧
      (seg.state = .victim → seg.valid = 0 → s.roomFor 1 → ∃ t : State,
        exec (.releaseSegment v g) s = .next t ∧
        s.hasAnswer t (.releaseSegment v g) .ok
          (two seg.written ++ bytes32 seg.closeSeq ++ flagSet [seg.suspect, seg.failed]) ∧
        t = { s.setSegment x .powerOn with ports := t.ports } ∧
        s.tells t fun p =>
          if ∃ c, (s.die x.die).assigned = some c ∧ p = c.port then [.segmentReleased x] else [])) ∧
    (s.reaches (.retireSegment v g) = true → known →
      (seg.state = .opened ∨ seg.state = .filled ∨ seg.state = .free →
        exec (.retireSegment v g) s = .next (s.answered (.retireSegment v g) .state [])) ∧
      (seg.state = .untracked ∨ seg.state = .closed ∨ seg.state = .victim →
        exec (.retireSegment v g) s = .next ((s.setSegment x { Segment.powerOn with state := .retired }).answered
          (.retireSegment v g) .ok (one seg.state.number ++ two seg.valid))) ∧
      (seg.state = .retired →
        exec (.retireSegment v g) s = .next (s.answered (.retireSegment v g) .ok (one seg.state.number ++ two seg.valid))))

/-! ### Configuration -/

/-- R178, R182, R176: SET GEOMETRY, LOCK GEOMETRY and START in CONFIG, with their checks in order, and their refusal in the
other device states. -/
def Obligations.GeometryIsSetLockedAndStarted : Prop :=
  ∀ (v : Via) (dies : Byte) (blocks units : Half) (sectors : Byte) (s : State),
    let set : Instr := .setGeometry v dies blocks units sectors
    let g : Geometry := ⟨dies.toNat, blocks.toNat, units.toNat, sectors.toNat⟩
    let sound := 1 ≤ g.dies ∧ g.dies ≤ 64 ∧ 16 ≤ g.blocks ∧ g.blocks ≤ 4096 ∧ g.dies * g.blocks ≤ 65536 ∧
      16 ≤ g.units ∧ g.units ≤ 1024 ∧ 4 ≤ g.sectors ∧ g.sectors ≤ 64 ∧ g.units * g.sectors ≤ 65535
    (∀ i, (i = set ∨ i = .lockGeometry v ∨ i = .start v) → s.reaches i = true →
      (s.device = .run → exec i s = .next (s.answered i .state [])) ∧
      (s.device = .drain ∨ s.device = .drained → exec i s = .next (s.answered i .power []))) ∧
    (s.reaches set = true → s.device = .config →
      (s.control.locked = true → exec set s = .next (s.answered set .locked [])) ∧
      (s.control.locked = false → ¬ sound → exec set s = .next (s.answered set .range [])) ∧
      (s.control.locked = false → sound → ∃ t : State,
        exec set s = .next (t.answered set .ok (two (g.units * g.sectors))) ∧
        t = { s.setControl { s.control with geometry := some g } with dies := t.dies } ∧
        ∀ d, t.die d = if g.dies ≤ d ∧ d < 64 then { s.die d with configured := none, assigned := none }
          else s.die d)) ∧
    (s.reaches (.lockGeometry v) = true → s.device = .config →
      (s.control.geometry = none → exec (.lockGeometry v) s = .next (s.answered (.lockGeometry v) .state [])) ∧
      (s.control.geometry ≠ none → exec (.lockGeometry v) s =
        .next ((s.setControl { s.control with locked := true }).answered (.lockGeometry v) .ok []))) ∧
    (s.reaches (.start v) = true → s.device = .config →
      let complete := s.control.locked = true ∧
        ∃ h, s.control.geometry = some h ∧ ∀ d, d < h.dies → (s.die d).configured ≠ none
      (¬ complete → exec (.start v) s = .next (s.answered (.start v) .state [])) ∧
      (complete → exec (.start v) s =
        .next ((s.setControl { s.control with device := .run }).answered (.start v) .ok [])))

/-- R179, Table 10-2: SET LIMITS stores one limit within its range, HW at most H, and lowers HW with H; its checks
stand in order. The order of the checks of H in RUN is the model's reading (log entry 19). -/
def Obligations.SetLimitsStoresOneLimit : Prop :=
  ∀ (v : Via) (selector : Byte) (value : Half) (s : State), s.reaches (.setLimits v selector value) = true →
    (s.device = .config ∨ s.device = .run) →
    let i : Instr := .setLimits v selector value
    let n := selector.toNat
    let x := value.toNat
    let l := s.limits
    let ranges : List (Nat × Nat × Bool) := [(256, 65535, true), (0, 65535, true), (0, 2048, true), (1, 8, true),
      (0, 2000, true), (0, 65535, false), (10, 2000, false), (0, 1, false), (1, 7, false), (0, 31, false)]
    (10 ≤ n → exec i s = .next (s.answered i .range [])) ∧
    (∀ low high configOnly, ranges[n]? = some (low, high, configOnly) →
      (x < low ∨ high < x → exec i s = .next (s.answered i .range [])) ∧
      (low ≤ x → x ≤ high → configOnly = true → s.device = .run → exec i s = .next (s.answered i .state [])) ∧
      (low ≤ x → x ≤ high → n = 0 → s.device = .config → x < s.reserves none →
        exec i s = .next (s.answered i .range [])) ∧
      (low ≤ x → x ≤ high → (configOnly = true → s.device = .config) → (n = 0 → s.reserves none ≤ x) →
        let stored := if n = 5 then min x l.holdUp else x
        exec i s = .next ((s.setControl { s.control with limits :=
          { holdUp := if n = 0 then x else l.holdUp
            reclaimHeld := if n = 1 then x else l.reclaimHeld
            reclaimRecords := if n = 2 then x else l.reclaimRecords
            dieInFlight := if n = 3 then x else l.dieInFlight
            reclaimTimeout := if n = 4 then x else l.reclaimTimeout
            highWater := if n = 0 then min l.highWater x else if n = 5 then stored else l.highWater
            batchDeadline := if n = 6 then x else l.batchDeadline
            overdue := if n = 7 then (if x = 0 then .report else .takeover) else l.overdue
            failureLimit := if n = 8 then x else l.failureLimit
            lowWater := if n = 9 then x else l.lowWater } }).answered i .ok
              (if n = 7 then one x else two stored))))

/-- R180, R181, R71: SET DIE MAP gives each die its core; LOAD SEGMENT enters a written segment CLOSED with its
counts, age, class and flags, or a retired one. The layout of the response is the model's reading of section 11.1 (log
entry 33), and that bits 3 to 7 of an entry's flags byte have no effect is its choice (log entry 38). -/
def Obligations.DiesAndSegmentsAreLoaded : Prop :=
  ∀ (v : Via) (s : State) (h : Geometry), s.device = .config → s.control.geometry = some h →
    (∀ cores : List Byte, s.reaches (.setDieMap v cores) = true →
      let i : Instr := .setDieMap v cores
      let sound := ∀ d, d < 64 → cores.getD d 0xFF = 0xFF ∨ (d < h.dies ∧ (cores.getD d 0xFF).toNat ≤ 1)
      (¬ sound → exec i s = .next (s.answered i .range [])) ∧
      (sound → ∃ t : State, exec i s = .next (t.answered i .ok []) ∧ t = { s with dies := t.dies } ∧
        ∀ d,
          let c := if cores.getD d 0xFF = 0 then some .core0 else if cores.getD d 0xFF = 1 then some .core1 else none
          t.die d = if d < 64 then { s.die d with configured := c, assigned := c } else s.die d)) ∧
    (∀ e : LoadEntry, s.reaches (.loadSegment v [e]) = true →
      let i : Instr := .loadSegment v [e]
      let g : Seg := ⟨e.die.toNat, e.block.toNat⟩
      let entryRefused (c : Code) := exec i s = .next (s.answered i .ok [0, 0, 1, c.byte])
      let known := g.die < h.dies ∧ g.block < h.blocks
      (s.control.locked = false → exec i s = .next (s.answered i .state [])) ∧
      (s.control.locked = true →
        (1 < e.kind.toNat ∨ ¬ known → entryRefused .range) ∧
        (e.kind = 0 → known → h.units * h.sectors < e.valid.toNat ∨ 2 < e.cls.toNat → entryRefused .range) ∧
        (e.kind = 0 → known → e.valid.toNat ≤ h.units * h.sectors → e.cls.toNat ≤ 2 →
          ((s.segment g).state ≠ .untracked → entryRefused .state) ∧
          ((s.segment g).state = .untracked → exec i s = .next ((s.setSegment g
            { state := .closed, owner := none,
              cls := if e.cls = 0 then .tenant else if e.cls = 1 then .reclaim else .unknown
              nextUnit := h.units, doneUnits := h.units, written := e.valid.toNat, valid := e.valid.toNat
              closeSeq := s.closeSeq - e.age, short := e.flags.getLsbD 0, failed := e.flags.getLsbD 1
              suspect := e.flags.getLsbD 2 }).answered i .ok [1, 0, 1, 0]))) ∧
        (e.kind = 1 → known →
          ((s.segment g).state = .untracked → exec i s =
            .next ((s.setSegment g { Segment.powerOn with state := .retired }).answered i .ok [1, 0, 1, 0])) ∧
          ((s.segment g).state = .retired → exec i s = .next (s.answered i .ok [1, 0, 1, 0])) ∧
          ((s.segment g).state ≠ .untracked → (s.segment g).state ≠ .retired → entryRefused .state))))

/-- R183, R4, R70, R72, R95, R163: RESTART keeps the geometry, the lock, the limits, the tick, the functions'
settings, the RETIRED segments, the configured cores, the generations and the buffers, and takes everything else back
to power-on; a FENCED function is ENABLED, and Ru is the sum of the reserves. That a running pulse ends is the model's
reading of section 9.7 (log entry 17). -/
def Obligations.RestartKeepsTheSettings : Prop :=
  ∀ (v : Via) (s : State), s.reaches (.restart v) = true →
    (s.device = .drain ∨ s.device = .drained → exec (.restart v) s = .next (s.answered (.restart v) .power [])) ∧
    (s.device = .config ∨ s.device = .run → s.canonical = true → ∃ t : State,
      exec (.restart v) s = .next t ∧ s.hasAnswer t (.restart v) .ok [] ∧
      t = { State.reset with
        control := { s.control with device := .config }, functions := t.functions
        budget := { total := 0, unused := s.reserves none, reclaimHeld := 0, reclaimWait := .none }
        segments := t.segments, dies := t.dies, slots := t.slots, ports := t.ports, pending := s.pending } ∧
      (∀ f, t.function f = { Function.powerOn with
        state := if (s.function f).state = .fenced then .enabled else (s.function f).state
        reserve := (s.function f).reserve, cap := (s.function f).cap, timeout := (s.function f).timeout }) ∧
      (∀ g, t.segment g = if (s.segment g).state = .retired then s.segment g else Segment.powerOn) ∧
      (∀ d, t.die d = { Die.powerOn with configured := (s.die d).configured, assigned := (s.die d).configured }) ∧
      (∀ k, t.slot k = if (s.slot k).batch = none then s.slot k else { gen := (s.slot k).gen + 1, batch := none }) ∧
      (∀ p, (t.port p).events = [] ∧ (t.port p).lost = false ∧ (t.port p).pulse = false ∧
        (t.port p).mode = (s.port p).mode))

/-- R176, R158, R68: power-on reset takes every block back to its power-on values, and a POWER-FAIL asserted at its end
completes the drain at once. An assertion in CONFIG does the same; in RUN it starts the drain, which with no sector uncut
completes at once when every CHAINED record belongs to a HALTED stream; elsewhere it changes the input alone, or nothing.
While the drain goes on, every open stream with uncut sectors has its seal PENDING, a stream that can make no cut stands
as it is, and one that can cuts its remainder. The level of the POWER-FAIL input at reset, and that power-on reset leaves
the queue of commands, are the model's choices (log entries 6, 26). -/
def Obligations.ResetAndPowerFail : Prop :=
  ∀ s : State,
    let draining := s.setControl { s.control with powerFail := true, device := .drain }
    let held := ∃ r, (s.record r).condition = .chained ∧ (s.stream (s.record r).stream).state ≠ .halted
    let isOpen : Nat → Bool := fun n => (s.stream n).state ≠ .free
    (s.control.powerFail = false → exec .powerOnReset s = .next { State.reset with pending := s.pending }) ∧
    (s.control.powerFail = true → exec .powerOnReset s =
      let told : PortState := { PortState.powerOn with events := [.drainComplete 0] }
      .next { State.reset with
        control := { Control.powerOn with device := .drained, powerFail := true }
        ports := { fp := told, mp0 := told, mp1 := told, rp := told }, pending := s.pending }) ∧
    (s.control.powerFail = true → exec .powerFailAssertion s = .next s) ∧
    (s.control.powerFail = false → s.device = .drain ∨ s.device = .drained →
      exec .powerFailAssertion s = .next (s.setControl { s.control with powerFail := true })) ∧
    (s.control.powerFail = false → s.device = .config → s.roomFor 1 → ∃ t : State,
      exec .powerFailAssertion s = .next t ∧ s.hasNoAnswer t ∧
      t = { s.setControl { s.control with powerFail := true, device := .drained } with ports := t.ports } ∧
      s.tells t fun _ => [.drainComplete 0]) ∧
    (s.control.powerFail = false → s.device = .run → Table.canonical .powerOn s.records = true →
      (∀ n, (s.stream n).state ≠ .free → s.uncut n = 0) →
      (held →
        exec .powerFailAssertion s = .next (s.setControl { s.control with powerFail := true, device := .drain })) ∧
      ((∀ r, (s.record r).condition = .chained → (s.stream (s.record r).stream).state = .halted) → s.roomFor 1 →
        ∃ t : State, exec .powerFailAssertion s = .next t ∧ s.hasNoAnswer t ∧
          t = { s.setControl { s.control with powerFail := true, device := .drained } with ports := t.ports } ∧
          s.tells t fun _ => [.drainComplete s.chainedCount])) ∧
    (s.control.powerFail = false → s.device = .run → Table.canonical .powerOn s.records = true → held →
      ((∀ n, isOpen n = true → 1 ≤ s.uncut n → s.blocked n) → ∃ t : State,
        exec .powerFailAssertion s = .next t ∧ draining.marks t isOpen) ∧
      (∀ k g slot, (∀ n, isOpen n = true ∧ 1 ≤ s.uncut n ↔ n = k) → s.uncut k ≤ s.geo.sectors → s.pointReady k g slot →
        ∃ t u : State, exec .powerFailAssertion s = .next t ∧ s.hasNoAnswer t ∧ s.delivers t (fun _ => []) ∧
          draining.marks u isOpen ∧ u.cuts t k g slot (s.restParts k) .disarmed))

/-! ### Queries -/

/-- R22, R45, R93, R94, R184: a query gives its owner's report in every device state and changes nothing; it is
refused STATE without a valid geometry where it names a segment or a die, and RANGE for an index out of range. The
fields of each report are spelled here, each with its width, in the order of its rule. Which fields of a FREE context are
absent, the widths that no table names, what stands for no wait and no flush, the die pairs, the die map of a part with
no geometry, the tag of a chain with no head record, the fields that a rule gives only for some states, and that the
segment counts of a die, the limits and the core states carry no count ahead of them are the model's readings and choices
(log entries 7, 9, 10, 11, 35, 36, 37, 39). -/
def Obligations.QueriesReportAndChangeNothing : Prop :=
  ∀ (v : Via) (x : Half) (g : SegmentName) (d : Byte) (s : State),
    let answers (i : Instr) (report : List Byte) := exec i s = .next (s.answered i .ok report)
    let refused (i : Instr) (c : Code) := exec i s = .next (s.answered i c [])
    let n := x.toNat
    let y : Seg := ⟨g.die.toNat, g.block.toNat⟩
    let known := y.die < s.geo.dies ∧ y.block < s.geo.blocks
    let flag (b : Bool) : Nat × Nat := (1, if b then 1 else 0)
    let core (c : Option Core) : Nat × Nat := orOnes 1 (c.map [Core.core0, .core1].idxOf)
    let port (p : Option Port) : Nat × Nat := orOnes 1 (p.map [Port.fp, .mp0, .mp1, .rp].idxOf)
    let segment (a : Option Seg) : List (Nat × Nat) := [orOnes 1 (a.map Seg.die), orOnes 2 (a.map Seg.block)]
    let wait (w : Wait) : List (Nat × Nat) := match w with
      | .none => [(1, 0), orOnes 1 none]
      | .budget k => [(1, 1), (1, k)]
      | .records k => [(1, 2), (1, k)]
    let shared : List (Nat × Nat) := [(2, s.limits.holdUp), (2, s.limits.highWater), (2, s.budget.total),
      (2, s.budget.unused), (2, s.tenantInUse)]
    let st := s.stream n
    let used := decide (st.state ≠ .free)
    let sealing : Nat × Nat := match st.sealing with
      | .disarmed => (0, 0)
      | .armed deadline => (1, deadline.toNat)
      | .pending => (2, 0)
    let cut := st.chain.find? fun r => (s.record r).placed < (s.record r).stop
    let fr := s.function n
    let headroom : Int := min ((fr.cap : Int) - fr.held)
      ((s.limits.holdUp : Int) - s.budget.total - s.budget.unused + max 0 ((fr.reserve : Int) - fr.held))
    let flush : List (Nat × Nat) := match fr.flush with
      | .none => [(1, 0), orOnes 4 none, orOnes 4 none]
      | .pending serial tag => [(1, 1), (4, serial.toNat), (4, tag.toNat)]
      | .complete serial tag => [(1, 2), (4, serial.toNat), (4, tag.toNat)]
    let seg := s.segment y
    (s.reaches (.queryStream v x) = true →
      (1023 < n → refused (.queryStream v x) .range) ∧ (n ≤ 1023 → answers (.queryStream v x) (s.streamReport n))) ∧
    (s.reaches (.queryFunction v x) = true →
      (n = 0xFFFF → answers (.queryFunction v x) s.reclaimReport) ∧
      (255 < n → n ≠ 0xFFFF → refused (.queryFunction v x) .range) ∧
      (n ≤ 255 → answers (.queryFunction v x) (s.functionReport n))) ∧
    (s.reaches (.querySegment v g) = true →
      (s.control.geometry = none → refused (.querySegment v g) .state) ∧
      (s.control.geometry ≠ none → ¬ known → refused (.querySegment v g) .range) ∧
      (s.control.geometry ≠ none → known → answers (.querySegment v g) (s.segmentReport y))) ∧
    (s.reaches (.queryDie v d) = true →
      (s.control.geometry = none → refused (.queryDie v d) .state) ∧
      (s.control.geometry ≠ none → s.geo.dies ≤ d.toNat → refused (.queryDie v d) .range) ∧
      (s.control.geometry ≠ none → d.toNat < s.geo.dies → answers (.queryDie v d) (s.dieReport d.toNat))) ∧
    (s.reaches (.queryDevice v) = true → answers (.queryDevice v) s.deviceReport) ∧
    (s.streamReport n = fieldBytes ([
          (1, [StreamState.free, .idle, .active, .waitSupply, .draining, .halted].idxOf st.state),
          orOnes 1 (if used then some ([StreamClass.tenant, .reclaim].idxOf st.cls) else none),
          orOnes 2 (if used && st.cls = .tenant then some st.owner else none),
          (1, [Intake.accept, .hold].idxOf st.intake), (8, st.mask.toNat), (1, st.depth), port st.requester,
          flag (s.waitSupply.contains n)] ++ segment st.writePoint ++ segment st.finishing ++
        [(2, st.inFlight), (1, sealing.1), (4, sealing.2), (2, st.failures), (4, st.padTotal),
          (4, st.batchesDone.toNat), (2, st.boundHints), (2, st.chain.length), (2, s.uncut n),
          orOnes 4 (st.chain.head?.map fun r => (s.record r).tag.toNat),
          (2, (cut.map fun r => (s.record r).placed).getD 0)])) ∧
    (s.functionReport n = fieldBytes ([
          (1, [FunctionState.disabled, .enabled, .fenced].idxOf fr.state), (2, fr.reserve), (2, fr.cap), (2, fr.timeout),
          (2, fr.held), (4, fr.serial.toNat), (2, fr.outstanding), (2, fr.openStreams)] ++ wait fr.wait ++ flush ++
        [orOnes 1 (fr.fence.map fun c => [FenceMode.discard, .drain].idxOf c.1), port (fr.fence.map Prod.snd),
          (2, fr.violations), (2, (max 0 headroom).toNat)] ++ shared)) ∧
    (s.reclaimReport = fieldBytes ([(2, s.budget.reclaimHeld), (2, s.limits.reclaimHeld), (2, s.reclaimInUse),
        (2, s.limits.reclaimRecords), (2, s.limits.reclaimHeld - s.budget.reclaimHeld), (2, s.openReclaim)] ++
      wait s.budget.reclaimWait ++ shared)) ∧
    (s.segmentReport y = fieldBytes [
        (1, [SegmentState.untracked, .free, .opened, .filled, .closed, .victim, .retired].idxOf seg.state),
        orOnes 2 seg.owner, (1, [SegmentClass.tenant, .reclaim, .unknown].idxOf seg.cls), (2, seg.nextUnit),
        (2, seg.doneUnits), (2, seg.written), (2, seg.valid), (4, seg.closeSeq.toNat),
        (1, bitsOf [seg.short, seg.failed, seg.suspect]), (2, seg.nextUnit - seg.doneUnits),
        orOnes 2 (if seg.state = .free then some ((s.die y.die).freeQueue.idxOf y.block + 1) else none)]) ∧
    (Table.canonical .powerOn s.segments = true → 1 ≤ s.geo.blocks →
      let die := s.die d.toNat
      let count (state : SegmentState) : Nat × Nat :=
        (2, ((List.range s.geo.blocks).filter fun b => (s.segment ⟨d.toNat, b⟩).state = state).length)
      s.dieReport d.toNat = fieldBytes ([core die.configured, core die.assigned, (2, die.freeQueue.length),
          (1, die.freeQueue.length)] ++ (die.freeQueue.map fun b => (2, b)) ++
        [(2, die.inFlight), (2, s.limits.dieInFlight), (2, die.openPoints), flag die.supplyLow,
          (2, die.slotWait.length), orOnes 2 die.slotWait.head?, count .untracked, count .free, count .opened,
          count .filled, count .closed, count .victim, count .retired, (1, s.rotation), (4, s.closeSeq.toNat)])) ∧
    (s.canonical = true → (∀ k, 1024 ≤ k → (s.stream k).state = .free) → (∀ k, 512 ≤ k → (s.slot k).batch = none) →
      let geo := s.control.geometry
      let l := s.limits
      let opened (cls : StreamClass) : Nat × Nat :=
        (2, ((List.range 1024).filter fun k => (s.stream k).state ≠ .free && (s.stream k).cls = cls).length)
      s.deviceReport = fieldBytes ([(1, [DeviceState.config, .run, .drain, .drained].idxOf s.device),
          flag s.control.powerFail, (4, s.tick.toNat), orOnes 1 (geo.map Geometry.dies), orOnes 2 (geo.map Geometry.blocks),
          orOnes 2 (geo.map Geometry.units), orOnes 1 (geo.map Geometry.sectors), flag geo.isSome, flag s.control.locked,
          orOnes 2 (geo.map fun h => h.units * h.sectors), (2, l.holdUp), (2, l.reclaimHeld), (2, l.reclaimRecords),
          (2, l.dieInFlight), (2, l.reclaimTimeout), (2, l.highWater), (2, l.batchDeadline),
          (1, [OverdueMode.report, .takeover].idxOf l.overdue), (2, l.failureLimit), (2, l.lowWater)] ++
        ((List.range 64).flatMap fun k => [core (s.die k).configured, core (s.die k).assigned]) ++
        [flag (geo.any fun h => (List.range h.dies).all fun k => (s.die k).configured.isSome),
          (1, [CoreState.active, .failed].idxOf s.cores.core0), (1, [CoreState.active, .failed].idxOf s.cores.core1),
          (4, s.closeSeq.toNat), (1, s.rotation), opened .tenant, opened .reclaim, (2, s.waitSupply.length),
          (2, s.tenantInUse), (2, s.reclaimInUse),
          (2, (s.reports.filter fun c => match c with
            | .fragment _ => true
            | .flush _ => false).length),
          (2, ((List.range 512).filter fun k => (s.slot k).batch.isSome).length), (2, s.queues.core0.length),
          (2, s.queues.core1.length), (2, s.queues.parked.length)]))

/-! ### Expiries -/

/-- R67, R57, R60 to R63, R66, R87: at the expiry of an armed seal, a stream with at most a unit of uncut sectors cuts them,
with padding; the cut that takes its write point's last unit fills the segment, which becomes the stream's finishing
segment. A seal whose deadline the tick has not reached does not expire. That an expiry may come after its tick is the
model's choice (log entry 2). -/
def Obligations.SealExpiryCutsTheRemainder : Prop :=
  ∀ (s : State) (i k : Nat) (g : Seg) (deadline : Word),
    (s.stream i).sealing = .armed deadline →
    (2 ^ 31 ≤ (s.tick - deadline).toNat → exec (.sealExpiry i) s = .next s) ∧
    ((s.tick - deadline).toNat < 2 ^ 31 → 1 ≤ s.uncut i → s.uncut i ≤ s.geo.sectors → s.pointReady i g k →
      ∃ t : State, exec (.sealExpiry i) s = .next t ∧ s.hasNoAnswer t ∧ s.delivers t (fun _ => []) ∧
        s.cuts t i g k (s.restParts i) .disarmed)

/-- R122 to R127: the deadline of a batch TAKEN by a core expires once the tick reaches it. In REPORT mode both
mapping ports are told and the batch is marked. In TAKEOVER mode, with the other core ACTIVE, and with this batch the
one in flight of its stream and its stream the one with a batch TAKEN by the core, and no cut due after: the core is
FAILED, its dies and its queue move to the other core, and the stream loses the batch and the segment. That an expiry
may come after its tick is the model's choice (log entry 2). -/
def Obligations.DeadlineExpiryReportsOrTakesOver : Prop :=
  ∀ (s : State) (n : Nat) (b : Batch) (deadline : Word) (c : Core),
    (s.slot n).batch = some b → b.phase = .taken deadline → b.place = .core c →
    (2 ^ 31 ≤ (s.tick - deadline).toNat ∨ b.overdue = true → exec (.batchDeadlineExpiry n) s = .next s) ∧
    ((s.tick - deadline).toNat < 2 ^ 31 → b.overdue = false →
      (s.limits.overdue = .report → s.roomFor 1 → ∃ t : State,
        exec (.batchDeadlineExpiry n) s = .next t ∧ s.hasNoAnswer t ∧
        t = { s.setSlot n { s.slot n with batch := some { b with overdue := true } } with ports := t.ports } ∧
        s.tells t fun p => if p = .mp0 ∨ p = .mp1 then [.batchOverdue n (s.slot n).gen c] else []) ∧
      (s.limits.overdue = .takeover → s.core c.other = .active → s.canonical = true → s.roomFor 2 →
        let i := b.stream
        let st := s.stream i
        let g := b.seg
        let seg := s.segment g
        let other := c.other.port
        let queue := s.queues.at (.core c)
        (∀ m x, (s.slot m).batch = some x → x.stream = i ∨ (x.place = .core c ∧ x.phase ≠ .queued) → m = n) →
        (∀ m ∈ queue, ∃ x, (s.slot m).batch = some x ∧ x.phase = .queued) → n ∉ s.queues.core0 → n ∉ s.queues.core1 →
        n ∉ s.queues.parked →
        st.state = .active → st.cls = .tenant → st.writePoint = some g → st.finishing = none →
        seg.state = .opened → seg.owner = some i → (s.die g.die).assigned = some c → (s.die g.die).slotWait = [] →
        ∀ e, b.extents = [e] → st.chain = [e.record] →
        let rec' := s.record e.record
        let offset := (e.lba - rec'.lba).toNat
        rec'.mark.getD rec'.sectors < s.geo.sectors + offset →
        s.device = .run → (s.function st.owner).state = .enabled → (s.function st.owner).flush = .none →
        (s.function st.owner).timeout = 0 → ∃ t : State,
          exec (.batchDeadlineExpiry n) s = .next t ∧ s.hasNoAnswer t ∧
          t = { s.setRecord e.record { rec' with placed := offset } with
            streams := t.streams, segments := t.segments, dies := t.dies, closeSeq := s.closeSeq + 1, slots := t.slots
            queues := t.queues, cores := t.cores, ports := t.ports } ∧
          t.core c = .failed ∧ t.core c.other = .active ∧
          (∀ d, (t.die d) = { s.die d with
            assigned := if (s.die d).assigned = some c then some c.other else (s.die d).assigned
            inFlight := if d = g.die then (s.die d).inFlight - 1 else (s.die d).inFlight
            openPoints := if d = g.die then (s.die d).openPoints - 1 else (s.die d).openPoints }) ∧
          (∀ j, t.stream j = if j = i then { st with
            state := .idle, writePoint := none, inFlight := st.inFlight - 1, sealing := .disarmed } else s.stream j) ∧
          t.segments = (s.setSegment g { seg with state := .closed, nextUnit := seg.doneUnits, closeSeq := s.closeSeq + 1
                                                  short := decide (seg.doneUnits < s.geo.units) || seg.short
                                                  failed := true }).segments ∧
          (∀ m, t.slot m = if m = n then { gen := (s.slot n).gen + 1, batch := none }
            else if m ∈ queue then { s.slot m with batch := (s.slot m).batch.map fun x => { x with place := .core c.other } }
            else s.slot m) ∧
          t.queues.at (.core c) = [] ∧ t.queues.at (.core c.other) = s.queues.at (.core c.other) ++ queue ∧
          t.queues.parked = s.queues.parked ∧
          s.tells t fun p =>
            (if p = .rp ∨ p = other then
              [.segmentClosed g (some i) (decide (seg.doneUnits < s.geo.units) || seg.short) true] else []) ++
            (if p = .mp0 ∨ p = .mp1 then [.coreTakeover c (some c.other) (s.diesOf c).length 1] else [])))

/-! ### Completions and arbiters -/

/-- R55, R150, R171: the oldest completion waiting for a port is reported when the port has a free entry, and no other
is: FRAGMENT DONE frees a record, RECLAIM or TENANT, FLUSH DONE clears a flush. That each is also a command of its own is
the table's row (log entry 4), and the fields of a FREE record are the model's choice (log entry 23). -/
def Obligations.CompletionsAreReportedInOrder : Prop :=
  ∀ s : State,
    (∀ r, s.oldestReport (s.reportPort (.fragment r)) ≠ some (.fragment r) ∨
        s.hasRoom (s.reportPort (.fragment r)) = false → exec (.fragmentDone r) s = .next s) ∧
    (∀ f, s.oldestReport .fp ≠ some (.flush f) ∨ s.hasRoom .fp = false → exec (.flushDone f) s = .next s) ∧
    (∀ (r : Nat) (status : RetireStatus), let rec' := s.record r
      rec'.condition = .pendingReport status → rec'.origin = .reclaim → s.oldestReport .rp = some (.fragment r) →
      (∀ k, s.budget.reclaimWait ≠ .records k) → (s.stream rec'.stream).state ≠ .draining → s.roomFor 1 → ∃ t : State,
        exec (.fragmentDone r) s = .next t ∧ s.hasNoAnswer t ∧
        t = { s.setRecord r .powerOn with
          reclaimInUse := s.reclaimInUse - 1, reports := s.reports.erase (.fragment r), ports := t.ports } ∧
        s.tells t fun p => if p = .rp then [.fragmentDone rec'.tag rec'.stream status] else []) ∧
    (∀ (r f : Nat) (serial : Word) (status : RetireStatus), let rec' := s.record r
      let fr := s.function f
      rec'.condition = .pendingReport status → rec'.origin = .tenant f serial → s.oldestReport .fp = some (.fragment r) →
      fr.fence = none ∨ 2 ≤ fr.outstanding → (∀ g k, (s.function g).wait ≠ .records k) →
      (s.stream rec'.stream).state ≠ .draining → s.roomFor 1 → ∃ t : State,
        exec (.fragmentDone r) s = .next t ∧ s.hasNoAnswer t ∧
        t = { (s.setRecord r .powerOn).setFunction f { fr with outstanding := fr.outstanding - 1 } with
          tenantInUse := s.tenantInUse - 1, reports := s.reports.erase (.fragment r), ports := t.ports } ∧
        s.tells t fun p => if p = .fp then [.fragmentDone rec'.tag rec'.stream status] else []) ∧
    (∀ (f : Nat) (serial tag : Word), (s.function f).flush = .complete serial tag →
      s.oldestReport .fp = some (.flush f) → s.roomFor 1 → ∃ t : State,
        exec (.flushDone f) s = .next t ∧ s.hasNoAnswer t ∧
        t = { s.setFunction f { s.function f with flush := .none } with
          reports := s.reports.erase (.flush f), ports := t.ports } ∧
        s.tells t fun p => if p = .fp then [.flushDone f tag] else [])

/-- R18 to R20, R88, R156, R160, R170: the close of a stream, the fence of a function and the drain complete when their
conditions hold, and not before. The write point of a stream that closes is closed SHORT when a unit of it was written;
otherwise it goes back to the head of its die's free queue, or, with 32 segments there, it is UNTRACKED and SEGMENT
RELEASED tells the die's core. A status event that meets a full queue is lost and sets the port's events-lost flag. That
each is also a command of its own is the table's row (log entry 4). -/
def Obligations.ClosesFencesAndTheDrainComplete : Prop :=
  ∀ s : State,
    (∀ i, (s.stream i).state ≠ .draining ∨ (s.stream i).chain ≠ [] ∨ (s.stream i).inFlight ≠ 0 ∨ s.reportsOf i = true →
      exec (.streamClosed i) s = .next s) ∧
    (∀ (i : Nat) (p : Port), let st := s.stream i
      st.state = .draining → st.chain = [] → st.inFlight = 0 → s.reportsOf i = false → st.requester = some p → p ≠ .fp →
      let closes (base t : State) (disposal : Port → List Event) : Prop :=
        exec (.streamClosed i) s = .next t ∧ s.hasNoAnswer t ∧
        t = { base with
          streams := t.streams, functions := t.functions, waitSupply := s.waitSupply.filter (· ≠ i), ports := t.ports
          openReclaim := if st.cls = .reclaim then s.openReclaim - 1 else s.openReclaim } ∧
        (∀ n, t.stream n = if n = i then Stream.freeOf st.cls st.owner else s.stream n) ∧
        (∀ f, t.function f = if st.cls = .tenant ∧ f = st.owner then
          { s.function f with openStreams := (s.function f).openStreams - 1 } else s.function f) ∧
        s.delivers t fun q =>
          disposal q ++ if q = p ∨ (q = .fp ∧ st.cls = .tenant) then [.streamClosed i] else []
      (st.writePoint = none → ∃ t : State, closes s t fun _ => []) ∧
      (∀ g, st.writePoint = some g →
        let seg := s.segment g
        let die := s.die g.die
        let short := decide (seg.doneUnits < s.geo.units) || seg.short
        let onDie (t : State) (d : Die) : Prop := ∀ x, t.die x = if x = g.die then d else s.die x
        let core (q : Port) : Bool := die.assigned.any fun c => q = c.port
        seg.state = .opened → seg.owner = some i →
        (1 ≤ seg.nextUnit → ∃ t : State,
          onDie t { die with openPoints := die.openPoints - 1, slotWait := die.slotWait.filter (· ≠ i) } ∧
          closes { s.setSegment g { seg with
              state := .closed, nextUnit := seg.doneUnits, closeSeq := s.closeSeq + 1, short := short } with
            dies := t.dies, closeSeq := s.closeSeq + 1 } t
            fun q => if q = .rp ∨ core q then [.segmentClosed g (some i) short seg.failed] else []) ∧
        (seg.nextUnit = 0 → die.freeQueue.length < 32 → (∀ n ∈ s.waitSupply, (s.stream n).mask.getLsbD g.die = false) →
          ∃ t : State,
            onDie t { die with
              openPoints := die.openPoints - 1, slotWait := die.slotWait.filter (· ≠ i)
              freeQueue := g.block :: die.freeQueue
              supplyLow := if s.limits.lowWater ≤ die.freeQueue.length + 1 then false else die.supplyLow } ∧
            closes { s.setSegment g { Segment.powerOn with state := .free } with dies := t.dies } t fun _ => []) ∧
        (seg.nextUnit = 0 → 32 ≤ die.freeQueue.length → ∃ t : State,
          onDie t { die with openPoints := die.openPoints - 1, slotWait := die.slotWait.filter (· ≠ i) } ∧
          closes { s.setSegment g .powerOn with dies := t.dies } t
            fun q => if core q then [.segmentReleased g] else []))) ∧
    (∀ f, (s.function f).fence = none ∨ (s.function f).outstanding ≠ 0 → exec (.fenceComplete f) s = .next s) ∧
    (∀ (f : Nat) (m : FenceMode) (p : Port), let fr := s.function f
      fr.fence = some (m, p) → fr.outstanding = 0 → ∃ t : State,
        exec (.fenceComplete f) s = .next t ∧ s.hasNoAnswer t ∧
        t = { s.setFunction f { fr with violations := 0, fence := none } with ports := t.ports } ∧
        s.delivers t fun q => if q = p then [.fenceComplete f fr.violations] else []) ∧
    (s.device ≠ .drain → exec .drainComplete s = .next s) ∧
    (s.device = .drain → Table.canonical .powerOn s.records = true →
      ((∃ r, (s.record r).condition = .chained ∧ (s.stream (s.record r).stream).state ≠ .halted) →
        exec .drainComplete s = .next s) ∧
      ((∀ r, (s.record r).condition = .chained → (s.stream (s.record r).stream).state = .halted) →
        ∃ t : State, exec .drainComplete s = .next t ∧ s.hasNoAnswer t ∧
          t = { s.setControl { s.control with device := .drained } with ports := t.ports } ∧
          s.delivers t fun _ => [.drainComplete s.chainedCount]))

/-- R59, R85, R78 to R80: a die at its in-flight limit grants no slot, and one below it grants the stream at the head of
its slot wait list, which leaves the list and cuts its remainder, while the streams behind it keep their order; here the
cut takes the die's last slot, or no other stream waits. A die with no core, no free segment or no stream waiting for it
serves none, and one with a free segment serves the oldest waiting stream whose mask covers it, whatever streams wait
ahead of it and behind it: the stream leaves the list, takes the segment at the head of the free queue as its write
point and, the die being at its in-flight limit, joins the tail of the slot wait list. That each is also a command of its
own is the table's row (log entry 4). -/
def Obligations.ArbitersServeTheHead : Prop :=
  ∀ (s : State) (d : Nat), let die := s.die d
    (die.slotWait = [] ∨ s.limits.dieInFlight ≤ die.inFlight → exec (.dieSlotGrant d) s = .next s) ∧
    (∀ (i b k : Nat) (rest : List Nat), let g : Seg := ⟨d, b⟩
      let st := s.stream i
      die.slotWait = i :: rest → rest = [] ∨ s.limits.dieInFlight = die.inFlight + 1 →
      st.sealing = .pending ∨ s.uncut i = s.geo.sectors → 1 ≤ s.uncut i → s.uncut i ≤ s.geo.sectors →
      s.pointReady i g k → ∃ t : State,
        exec (.dieSlotGrant d) s = .next t ∧ s.hasNoAnswer t ∧ s.delivers t (fun _ => []) ∧
        (s.setDie d { die with slotWait := rest }).cuts t i g k (s.restParts i) .disarmed) ∧
    (die.assigned = none ∨ die.freeQueue = [] ∨ (∀ i ∈ s.waitSupply, (s.stream i).mask.getLsbD d = false) →
      exec (.waitSupplyServe d) s = .next s) ∧
    (∀ (i b : Nat) (rest ahead behind : List Nat), let g : Seg := ⟨d, b⟩
      let st := s.stream i
      s.waitSupply = ahead ++ i :: behind → i ∉ ahead → i ∉ behind →
      (∀ n ∈ ahead, (s.stream n).mask.getLsbD d = false) →
      rest = [] ∨ (∀ n ∈ behind, (s.stream n).mask.getLsbD d = false) →
      die.freeQueue = b :: rest → (∀ x, s.eligible st.mask x = true ↔ x = d) →
      s.limits.lowWater ≤ rest.length ∨ die.supplyLow = true → s.limits.dieInFlight ≤ die.inFlight →
      i ∉ die.slotWait → st.state = .waitSupply ∨ st.state = .draining →
      st.sealing = .pending ∨ s.geo.sectors ≤ s.uncut i → 1 ≤ s.uncut i → st.inFlight < st.depth →
      exec (.waitSupplyServe d) s = .next (({ s with waitSupply := ahead ++ behind, rotation := d }.setDie d { die with
          freeQueue := rest, openPoints := die.openPoints + 1, slotWait := die.slotWait ++ [i] }).setSegment g
        { Segment.powerOn with state := .opened, owner := some i, cls := st.cls.segment } |>.setStream i
        { st with writePoint := some g, state := if st.state = StreamState.waitSupply then .active else st.state }))

end
end

