-- ==== Sys2Proof/Laws/Bytes.lean ====
section
/-! SUPPORT. The bytes of a field join back to the field, and the entries of a list read back from its bytes. -/

namespace Sys2Proof

/-- Two bytes of a 2-byte field. -/
@[simp] theorem join16_bytes (x : Half) : join16 (x.extractLsb' 0 8) (x.extractLsb' 8 8) = x := by
  simp only [join16]
  rw [BitVec.extractLsb'_append_extractLsb'_eq_extractLsb' (by rfl)]
  simp

@[simp] theorem join32_bytes (x : Word) :
    join32 (x.extractLsb' 0 8) (x.extractLsb' 8 8) (x.extractLsb' 16 8) (x.extractLsb' 24 8) = x := by
  simp only [join32]
  rw [BitVec.extractLsb'_append_extractLsb'_eq_extractLsb' (by rfl),
    BitVec.extractLsb'_append_extractLsb'_eq_extractLsb' (by rfl),
    BitVec.extractLsb'_append_extractLsb'_eq_extractLsb' (by rfl)]
  simp

@[simp] theorem join48_bytes (x : Lba) :
    join48 (x.extractLsb' 0 8) (x.extractLsb' 8 8) (x.extractLsb' 16 8) (x.extractLsb' 24 8) (x.extractLsb' 32 8)
      (x.extractLsb' 40 8) = x := by
  simp only [join48]
  repeat rw [BitVec.extractLsb'_append_extractLsb'_eq_extractLsb' (by rfl)]
  simp

@[simp] theorem join64_bytes (x : DieMask) :
    join64 (x.extractLsb' 0 8) (x.extractLsb' 8 8) (x.extractLsb' 16 8) (x.extractLsb' 24 8) (x.extractLsb' 32 8)
      (x.extractLsb' 40 8) (x.extractLsb' 48 8) (x.extractLsb' 56 8) = x := by
  simp only [join64]
  repeat rw [BitVec.extractLsb'_append_extractLsb'_eq_extractLsb' (by rfl)]
  simp

@[simp] theorem readSegments_bytes (es : List SegmentName) : readSegments (es.flatMap SegmentName.bytes) = es := by
  induction es with
  | nil => rfl
  | cons e es ih => simp [SegmentName.bytes, bytes16, readSegments, ih]

@[simp] theorem readStale_bytes (es : List StaleEntry) : readStale (es.flatMap StaleEntry.bytes) = es := by
  induction es with
  | nil => rfl
  | cons e es ih => simp [StaleEntry.bytes, bytes16, readStale, ih]

@[simp] theorem readLoads_bytes (es : List LoadEntry) : readLoads (es.flatMap LoadEntry.bytes) = es := by
  induction es with
  | nil => rfl
  | cons e es ih => simp [LoadEntry.bytes, bytes16, bytes32, readLoads, ih]

/-- The bytes of entries of a fixed width. -/
theorem length_entries {α : Type} (entry : α → List Byte) (w : Nat) (hw : ∀ e, (entry e).length = w) (es : List α) :
    (es.flatMap entry).length = w * es.length := by
  induction es with
  | nil => rfl
  | cons e es ih => rw [List.flatMap_cons, List.length_append, hw, ih, List.length_cons, Nat.mul_succ, Nat.add_comm]

/-- Bit 0 of a flags byte is the CRC mark. -/
@[simp] theorem flagsByte_mark (crc : Bool) : (flagsByte crc).getLsbD 0 = crc := by cases crc <;> rfl

end Sys2Proof
end

