-- ==== Sys2Proof/Laws/Tables.lean ====
section
/-! SUPPORT. What the table operations do: read after write, and the canonical form they keep. -/

namespace Sys2Proof.Machine

variable {α : Type}

@[simp] theorem Table.read_nil (d : α) (i : Nat) : Table.read d [] i = d := rfl

/-- An index below a table's bound is not listed. -/
theorem Table.read_below [DecidableEq α] (d : α) (t : Table α) (low i : Nat) (h : Table.canonicalFrom d low t = true)
    (hi : i < low) : Table.read d t i = d := by
  cases t with
  | nil => rfl
  | cons c t =>
    simp only [Table.canonicalFrom, Bool.and_eq_true, decide_eq_true_eq] at h
    simp [Table.read, show i < c.1 by omega]

/-- Reading past the entries up to i that were dropped. -/
theorem Table.read_dropWhile (d : α) (t : Table α) (i : Nat) : Table.read d (t.dropWhile fun c => c.1 ≤ i) i = d := by
  induction t with
  | nil => rfl
  | cons c t ih =>
    by_cases h : c.1 ≤ i
    · simp [List.dropWhile, h, ih]
    · simp [List.dropWhile, h, Table.read, show i < c.1 by omega]

/-- Read after write, at the index written. -/
@[simp] theorem Table.read_write_same [DecidableEq α] (d : α) (t : Table α) (i : Nat) (v : α) :
    Table.read d (Table.write d t i v) i = v := by
  induction t with
  | nil => by_cases h : v = d <;> simp [Table.write, Table.read, h]
  | cons c t ih =>
    obtain ⟨j, w⟩ := c
    simp only [Table.write]
    split
    · by_cases h : v = d <;> simp_all [Table.read]
    · split
      · by_cases h : v = d <;> simp_all [Table.read, Table.read_dropWhile]
      · simp_all [Table.read]

/-- Dropping the entries up to i leaves every canonical entry behind i as it was. -/
theorem Table.read_dropWhile_ne (d : α) (t : Table α) (i j : Nat) (h : i < j) :
    Table.read d (t.dropWhile fun c => c.1 ≤ i) j = Table.read d t j := by
  induction t with
  | nil => rfl
  | cons c t ih =>
    by_cases hc : c.1 ≤ i
    · simp [List.dropWhile, hc, ih, Table.read, show ¬ j < c.1 by omega, show j ≠ c.1 by omega]
    · simp [List.dropWhile, hc]

/-- Read after write, at every other index. -/
theorem Table.read_write_ne [DecidableEq α] (d : α) (t : Table α) (i j : Nat) (v : α) (h : j ≠ i) :
    Table.read d (Table.write d t i v) j = Table.read d t j := by
  induction t with
  | nil => by_cases hv : v = d <;> simp [Table.write, Table.read, hv, h]
  | cons c t ih =>
    obtain ⟨k, w⟩ := c
    simp only [Table.write]
    split
    · rename_i hik
      by_cases hv : v = d
      · simp [hv]
      · simp only [hv, if_false, Table.read, h]
        by_cases hj : j < i
        · simp [hj, show j < k by omega]
        · simp [hj]
    · split
      · rename_i hk
        subst hk
        by_cases hv : v = d
        · simp only [hv, if_true]
          by_cases hj : j < i
          · rw [show Table.read d ((i, w) :: t) j = d by simp [Table.read, hj]]
            have : Table.read d (t.dropWhile fun c => c.1 ≤ i) j = d := by
              cases hd : t.dropWhile fun c => decide (c.1 ≤ i) with
              | nil => rfl
              | cons c u =>
                have := List.head_dropWhile_not (p := fun c : Nat × α => decide (c.1 ≤ i)) (l := t) (by simp [hd])
                simp only [hd, List.head_cons, decide_eq_false_iff_not, not_le] at this
                simp [Table.read, show j < c.1 by omega]
            exact this
          · rw [Table.read_dropWhile_ne d t i j (by omega)]
            simp [Table.read, show ¬ j < i by omega, h]
        · simp [hv, Table.read, h]
      · simp only [Table.read, ih]

/-- Read after write. -/
theorem Table.read_write [DecidableEq α] (d : α) (t : Table α) (i j : Nat) (v : α) :
    Table.read d (Table.write d t i v) j = if j = i then v else Table.read d t j := by
  split
  · subst_vars; simp
  · exact Table.read_write_ne d t i j v ‹_›

theorem Table.canonicalFrom_mono [DecidableEq α] (d : α) (t : Table α) (a b : Nat) (hab : a ≤ b)
    (h : Table.canonicalFrom d b t = true) : Table.canonicalFrom d a t = true := by
  cases t with
  | nil => rfl
  | cons c t =>
    simp only [Table.canonicalFrom, Bool.and_eq_true, decide_eq_true_eq] at h ⊢
    exact ⟨⟨by omega, h.1.2⟩, h.2⟩

/-- A canonical table is left as it is by dropping the entries below its bound. -/
theorem Table.dropWhile_canonical [DecidableEq α] (d : α) (t : Table α) (i : Nat)
    (h : Table.canonicalFrom d (i + 1) t = true) : t.dropWhile (fun c => decide (c.1 ≤ i)) = t := by
  cases t with
  | nil => rfl
  | cons c t =>
    simp only [Table.canonicalFrom, Bool.and_eq_true, decide_eq_true_eq] at h
    simp [List.dropWhile, show ¬ c.1 ≤ i by omega]

theorem Table.canonicalFrom_write [DecidableEq α] (d : α) (t : Table α) (i low : Nat) (v : α) (hi : low ≤ i)
    (h : Table.canonicalFrom d low t = true) : Table.canonicalFrom d low (Table.write d t i v) = true := by
  induction t generalizing low with
  | nil => by_cases hv : v = d <;> simp [Table.write, Table.canonicalFrom, hv, hi]
  | cons c t ih =>
    obtain ⟨j, w⟩ := c
    have h' := h
    simp only [Table.canonicalFrom, Bool.and_eq_true, decide_eq_true_eq] at h
    simp only [Table.write]
    split
    · by_cases hv : v = d
      · simpa [hv] using h'
      · simp only [hv, if_false, Table.canonicalFrom, Bool.and_eq_true, decide_eq_true_eq]
        exact ⟨⟨hi, by simpa using hv⟩, ⟨by omega, h.1.2⟩, h.2⟩
    · split
      · subst_vars
        by_cases hv : v = d
        · simp only [hv, if_true]
          rw [Table.dropWhile_canonical d t _ h.2]
          exact Table.canonicalFrom_mono d t _ _ (by omega) h.2
        · simp only [hv, if_false, Table.canonicalFrom, Bool.and_eq_true, decide_eq_true_eq]
          exact ⟨⟨hi, by simpa using hv⟩, h.2⟩
      · simp only [Table.canonicalFrom, Bool.and_eq_true, decide_eq_true_eq]
        exact ⟨h.1, ih (j + 1) (by omega) h.2⟩

/-- A write keeps the canonical form. -/
theorem Table.canonical_write [DecidableEq α] (d : α) (t : Table α) (i : Nat) (v : α)
    (h : Table.canonical d t = true) : Table.canonical d (Table.write d t i v) = true :=
  Table.canonicalFrom_write d t i 0 v (Nat.zero_le i) h

theorem Table.canonicalFrom_mapEntries [DecidableEq α] (d : α) (f : α → α) (t : Table α) (low : Nat)
    (h : Table.canonicalFrom d low t = true) : Table.canonicalFrom d low (Table.mapEntries d f t) = true := by
  induction t generalizing low with
  | nil => rfl
  | cons c t ih =>
    obtain ⟨j, w⟩ := c
    simp only [Table.canonicalFrom, Bool.and_eq_true, decide_eq_true_eq] at h
    have ih' := ih (j + 1) h.2
    by_cases hw : f w = d
    · have : Table.mapEntries d f ((j, w) :: t) = Table.mapEntries d f t := by simp [Table.mapEntries, hw]
      rw [this]
      exact Table.canonicalFrom_mono d _ _ _ (by omega) ih'
    · have : Table.mapEntries d f ((j, w) :: t) = (j, f w) :: Table.mapEntries d f t := by
        simp [Table.mapEntries, hw]
      rw [this]
      simp only [Table.canonicalFrom, Bool.and_eq_true, decide_eq_true_eq]
      exact ⟨⟨h.1.1, by simpa using hw⟩, ih'⟩

/-- Changing every entry keeps the canonical form. -/
theorem Table.canonical_mapEntries [DecidableEq α] (d : α) (f : α → α) (t : Table α)
    (h : Table.canonical d t = true) : Table.canonical d (Table.mapEntries d f t) = true :=
  Table.canonicalFrom_mapEntries d f t 0 h

theorem Table.read_mapEntries_from [DecidableEq α] (d : α) (f : α → α) (hf : f d = d) (t : Table α) (low i : Nat)
    (h : Table.canonicalFrom d low t = true) : Table.read d (Table.mapEntries d f t) i = f (Table.read d t i) := by
  induction t generalizing low with
  | nil => simp [Table.mapEntries, hf]
  | cons c t ih =>
    obtain ⟨j, w⟩ := c
    simp only [Table.canonicalFrom, Bool.and_eq_true, decide_eq_true_eq] at h
    have ih' := ih (j + 1) h.2
    have hb : ∀ k, k < j + 1 → Table.read d (Table.mapEntries d f t) k = d := fun k hk =>
      Table.read_below d _ (j + 1) k (Table.canonicalFrom_mapEntries d f t (j + 1) h.2) hk
    by_cases hw : f w = d
    · have : Table.mapEntries d f ((j, w) :: t) = Table.mapEntries d f t := by simp [Table.mapEntries, hw]
      rw [this]
      by_cases h1 : i < j
      · rw [hb i (by omega)]; simp [Table.read, h1, hf]
      · by_cases h2 : i = j
        · subst h2; rw [hb i (by omega)]; simp [Table.read, hw]
        · rw [ih']; simp [Table.read, h1, h2]
    · have : Table.mapEntries d f ((j, w) :: t) = (j, f w) :: Table.mapEntries d f t := by
        simp [Table.mapEntries, hw]
      rw [this]
      by_cases h1 : i < j
      · simp [Table.read, h1, hf]
      · by_cases h2 : i = j
        · subst h2; simp [Table.read]
        · simp [Table.read, h1, h2, ih']

/-- Reading an entry of a table whose entries were all changed. -/
theorem Table.read_mapEntries [DecidableEq α] (d : α) (f : α → α) (hf : f d = d) (t : Table α) (i : Nat)
    (h : Table.canonical d t = true) : Table.read d (Table.mapEntries d f t) i = f (Table.read d t i) :=
  Table.read_mapEntries_from d f hf t 0 i h

/-- An index whose entry differs from the power-on entry is listed. -/
theorem Table.mem_indices (d : α) (t : Table α) (i : Nat) (h : Table.read d t i ≠ d) : i ∈ Table.indices t := by
  induction t with
  | nil => simp at h
  | cons c t ih =>
    obtain ⟨j, w⟩ := c
    by_cases h1 : i = j
    · simp [Table.indices, h1]
    · by_cases h2 : i < j
      · simp [Table.read, h2] at h
      · simp only [Table.indices, List.map_cons, List.mem_cons]
        exact .inr (ih (by simpa [Table.read, h1, h2] using h))

/-! ### The lowest index -/

/-- `lowestFrom` finds an index that satisfies p, with none below it. -/
theorem lowestFrom_some (p : Nat → Bool) (n i j : Nat) (h : lowestFrom p n i = some j) :
    p j = true ∧ i ≤ j ∧ j < i + n ∧ ∀ k, i ≤ k → k < j → p k = false := by
  induction n generalizing i with
  | zero => simp [lowestFrom] at h
  | succ n ih =>
    simp only [lowestFrom] at h
    by_cases hp : p i = true
    · rw [if_pos hp] at h
      cases h
      exact ⟨hp, by omega, by omega, fun k _ _ => by omega⟩
    · rw [if_neg hp] at h
      obtain ⟨h1, h2, h3, h4⟩ := ih (i + 1) h
      refine ⟨h1, by omega, by omega, fun k hk hk' => ?_⟩
      by_cases hki : k = i
      · subst hki; simpa using hp
      · exact h4 k (by omega) hk'

/-- An index that satisfies p, with none below it, is the one `lowestFrom` finds. -/
theorem lowestFrom_eq (p : Nat → Bool) (n i j : Nat) (hj : p j = true) (hi : i ≤ j) (hn : j < i + n)
    (hlow : ∀ k, i ≤ k → k < j → p k = false) : lowestFrom p n i = some j := by
  induction n generalizing i with
  | zero => omega
  | succ n ih =>
    simp only [lowestFrom]
    by_cases hij : i = j
    · subst hij; simp [hj]
    · rw [if_neg (by simp [hlow i (by omega) (by omega)])]
      exact ih (i + 1) (by omega) (by omega) fun k hk hk' => hlow k (by omega) hk'

end Sys2Proof.Machine
end

