-- ==== Sys2Proof/Laws/State.lean ====
section
/-! SUPPORT. One lemma for each field and each reading after each update, so that no proof unfolds a record update. -/

namespace Sys2Proof.Machine

variable (s : State)

/-! ### setStream -/

@[simp] theorem State.setStream_control (i : Nat) (v : Stream) : (s.setStream i v).control = s.control := rfl
@[simp] theorem State.setStream_functions (i : Nat) (v : Stream) : (s.setStream i v).functions = s.functions := rfl
@[simp] theorem State.setStream_bindings (i : Nat) (v : Stream) : (s.setStream i v).bindings = s.bindings := rfl
@[simp] theorem State.setStream_streams (i : Nat) (v : Stream) : (s.setStream i v).streams = Table.write .powerOn s.streams i v := rfl
@[simp] theorem State.setStream_openReclaim (i : Nat) (v : Stream) : (s.setStream i v).openReclaim = s.openReclaim := rfl
@[simp] theorem State.setStream_waitSupply (i : Nat) (v : Stream) : (s.setStream i v).waitSupply = s.waitSupply := rfl
@[simp] theorem State.setStream_budget (i : Nat) (v : Stream) : (s.setStream i v).budget = s.budget := rfl
@[simp] theorem State.setStream_records (i : Nat) (v : Stream) : (s.setStream i v).records = s.records := rfl
@[simp] theorem State.setStream_tenantInUse (i : Nat) (v : Stream) : (s.setStream i v).tenantInUse = s.tenantInUse := rfl
@[simp] theorem State.setStream_reclaimInUse (i : Nat) (v : Stream) : (s.setStream i v).reclaimInUse = s.reclaimInUse := rfl
@[simp] theorem State.setStream_reports (i : Nat) (v : Stream) : (s.setStream i v).reports = s.reports := rfl
@[simp] theorem State.setStream_segments (i : Nat) (v : Stream) : (s.setStream i v).segments = s.segments := rfl
@[simp] theorem State.setStream_dies (i : Nat) (v : Stream) : (s.setStream i v).dies = s.dies := rfl
@[simp] theorem State.setStream_rotation (i : Nat) (v : Stream) : (s.setStream i v).rotation = s.rotation := rfl
@[simp] theorem State.setStream_closeSeq (i : Nat) (v : Stream) : (s.setStream i v).closeSeq = s.closeSeq := rfl
@[simp] theorem State.setStream_slots (i : Nat) (v : Stream) : (s.setStream i v).slots = s.slots := rfl
@[simp] theorem State.setStream_queues (i : Nat) (v : Stream) : (s.setStream i v).queues = s.queues := rfl
@[simp] theorem State.setStream_cores (i : Nat) (v : Stream) : (s.setStream i v).cores = s.cores := rfl
@[simp] theorem State.setStream_ports (i : Nat) (v : Stream) : (s.setStream i v).ports = s.ports := rfl
@[simp] theorem State.setStream_pending (i : Nat) (v : Stream) : (s.setStream i v).pending = s.pending := rfl
@[simp] theorem State.setStream_function (i : Nat) (v : Stream) (j : Nat) : (s.setStream i v).function j = s.function j := rfl
@[simp] theorem State.setStream_record (i : Nat) (v : Stream) (j : Nat) : (s.setStream i v).record j = s.record j := rfl
@[simp] theorem State.setStream_die (i : Nat) (v : Stream) (j : Nat) : (s.setStream i v).die j = s.die j := rfl
@[simp] theorem State.setStream_slot (i : Nat) (v : Stream) (j : Nat) : (s.setStream i v).slot j = s.slot j := rfl
@[simp] theorem State.setStream_binding (i : Nat) (v : Stream) (a b : Nat) : (s.setStream i v).binding a b = s.binding a b := rfl
@[simp] theorem State.setStream_segment (i : Nat) (v : Stream) (h : Seg) : (s.setStream i v).segment h = s.segment h := rfl
@[simp] theorem State.setStream_port (i : Nat) (v : Stream) (q : Port) : (s.setStream i v).port q = s.port q := rfl
@[simp] theorem State.setStream_geo (i : Nat) (v : Stream) : (s.setStream i v).geo = s.geo := rfl
@[simp] theorem State.setStream_core (i : Nat) (v : Stream) (c : Core) : (s.setStream i v).core c = s.core c := rfl
@[simp] theorem State.setStream_segIndex (i : Nat) (v : Stream) (h : Seg) : (s.setStream i v).segIndex h = s.segIndex h := rfl
@[simp] theorem State.setStream_device (i : Nat) (v : Stream) : (s.setStream i v).device = s.device := rfl
@[simp] theorem State.setStream_limits (i : Nat) (v : Stream) : (s.setStream i v).limits = s.limits := rfl
@[simp] theorem State.setStream_tick (i : Nat) (v : Stream) : (s.setStream i v).tick = s.tick := rfl

/-! ### setFunction -/

@[simp] theorem State.setFunction_control (f : Nat) (v : Function) : (s.setFunction f v).control = s.control := rfl
@[simp] theorem State.setFunction_functions (f : Nat) (v : Function) : (s.setFunction f v).functions = Table.write .powerOn s.functions f v := rfl
@[simp] theorem State.setFunction_bindings (f : Nat) (v : Function) : (s.setFunction f v).bindings = s.bindings := rfl
@[simp] theorem State.setFunction_streams (f : Nat) (v : Function) : (s.setFunction f v).streams = s.streams := rfl
@[simp] theorem State.setFunction_openReclaim (f : Nat) (v : Function) : (s.setFunction f v).openReclaim = s.openReclaim := rfl
@[simp] theorem State.setFunction_waitSupply (f : Nat) (v : Function) : (s.setFunction f v).waitSupply = s.waitSupply := rfl
@[simp] theorem State.setFunction_budget (f : Nat) (v : Function) : (s.setFunction f v).budget = s.budget := rfl
@[simp] theorem State.setFunction_records (f : Nat) (v : Function) : (s.setFunction f v).records = s.records := rfl
@[simp] theorem State.setFunction_tenantInUse (f : Nat) (v : Function) : (s.setFunction f v).tenantInUse = s.tenantInUse := rfl
@[simp] theorem State.setFunction_reclaimInUse (f : Nat) (v : Function) : (s.setFunction f v).reclaimInUse = s.reclaimInUse := rfl
@[simp] theorem State.setFunction_reports (f : Nat) (v : Function) : (s.setFunction f v).reports = s.reports := rfl
@[simp] theorem State.setFunction_segments (f : Nat) (v : Function) : (s.setFunction f v).segments = s.segments := rfl
@[simp] theorem State.setFunction_dies (f : Nat) (v : Function) : (s.setFunction f v).dies = s.dies := rfl
@[simp] theorem State.setFunction_rotation (f : Nat) (v : Function) : (s.setFunction f v).rotation = s.rotation := rfl
@[simp] theorem State.setFunction_closeSeq (f : Nat) (v : Function) : (s.setFunction f v).closeSeq = s.closeSeq := rfl
@[simp] theorem State.setFunction_slots (f : Nat) (v : Function) : (s.setFunction f v).slots = s.slots := rfl
@[simp] theorem State.setFunction_queues (f : Nat) (v : Function) : (s.setFunction f v).queues = s.queues := rfl
@[simp] theorem State.setFunction_cores (f : Nat) (v : Function) : (s.setFunction f v).cores = s.cores := rfl
@[simp] theorem State.setFunction_ports (f : Nat) (v : Function) : (s.setFunction f v).ports = s.ports := rfl
@[simp] theorem State.setFunction_pending (f : Nat) (v : Function) : (s.setFunction f v).pending = s.pending := rfl
@[simp] theorem State.setFunction_stream (f : Nat) (v : Function) (j : Nat) : (s.setFunction f v).stream j = s.stream j := rfl
@[simp] theorem State.setFunction_record (f : Nat) (v : Function) (j : Nat) : (s.setFunction f v).record j = s.record j := rfl
@[simp] theorem State.setFunction_die (f : Nat) (v : Function) (j : Nat) : (s.setFunction f v).die j = s.die j := rfl
@[simp] theorem State.setFunction_slot (f : Nat) (v : Function) (j : Nat) : (s.setFunction f v).slot j = s.slot j := rfl
@[simp] theorem State.setFunction_binding (f : Nat) (v : Function) (a b : Nat) : (s.setFunction f v).binding a b = s.binding a b := rfl
@[simp] theorem State.setFunction_segment (f : Nat) (v : Function) (h : Seg) : (s.setFunction f v).segment h = s.segment h := rfl
@[simp] theorem State.setFunction_port (f : Nat) (v : Function) (q : Port) : (s.setFunction f v).port q = s.port q := rfl
@[simp] theorem State.setFunction_geo (f : Nat) (v : Function) : (s.setFunction f v).geo = s.geo := rfl
@[simp] theorem State.setFunction_core (f : Nat) (v : Function) (c : Core) : (s.setFunction f v).core c = s.core c := rfl
@[simp] theorem State.setFunction_segIndex (f : Nat) (v : Function) (h : Seg) : (s.setFunction f v).segIndex h = s.segIndex h := rfl
@[simp] theorem State.setFunction_device (f : Nat) (v : Function) : (s.setFunction f v).device = s.device := rfl
@[simp] theorem State.setFunction_limits (f : Nat) (v : Function) : (s.setFunction f v).limits = s.limits := rfl
@[simp] theorem State.setFunction_tick (f : Nat) (v : Function) : (s.setFunction f v).tick = s.tick := rfl

/-! ### setRecord -/

@[simp] theorem State.setRecord_control (r : Nat) (v : Fragment) : (s.setRecord r v).control = s.control := rfl
@[simp] theorem State.setRecord_functions (r : Nat) (v : Fragment) : (s.setRecord r v).functions = s.functions := rfl
@[simp] theorem State.setRecord_bindings (r : Nat) (v : Fragment) : (s.setRecord r v).bindings = s.bindings := rfl
@[simp] theorem State.setRecord_streams (r : Nat) (v : Fragment) : (s.setRecord r v).streams = s.streams := rfl
@[simp] theorem State.setRecord_openReclaim (r : Nat) (v : Fragment) : (s.setRecord r v).openReclaim = s.openReclaim := rfl
@[simp] theorem State.setRecord_waitSupply (r : Nat) (v : Fragment) : (s.setRecord r v).waitSupply = s.waitSupply := rfl
@[simp] theorem State.setRecord_budget (r : Nat) (v : Fragment) : (s.setRecord r v).budget = s.budget := rfl
@[simp] theorem State.setRecord_records (r : Nat) (v : Fragment) : (s.setRecord r v).records = Table.write .powerOn s.records r v := rfl
@[simp] theorem State.setRecord_tenantInUse (r : Nat) (v : Fragment) : (s.setRecord r v).tenantInUse = s.tenantInUse := rfl
@[simp] theorem State.setRecord_reclaimInUse (r : Nat) (v : Fragment) : (s.setRecord r v).reclaimInUse = s.reclaimInUse := rfl
@[simp] theorem State.setRecord_reports (r : Nat) (v : Fragment) : (s.setRecord r v).reports = s.reports := rfl
@[simp] theorem State.setRecord_segments (r : Nat) (v : Fragment) : (s.setRecord r v).segments = s.segments := rfl
@[simp] theorem State.setRecord_dies (r : Nat) (v : Fragment) : (s.setRecord r v).dies = s.dies := rfl
@[simp] theorem State.setRecord_rotation (r : Nat) (v : Fragment) : (s.setRecord r v).rotation = s.rotation := rfl
@[simp] theorem State.setRecord_closeSeq (r : Nat) (v : Fragment) : (s.setRecord r v).closeSeq = s.closeSeq := rfl
@[simp] theorem State.setRecord_slots (r : Nat) (v : Fragment) : (s.setRecord r v).slots = s.slots := rfl
@[simp] theorem State.setRecord_queues (r : Nat) (v : Fragment) : (s.setRecord r v).queues = s.queues := rfl
@[simp] theorem State.setRecord_cores (r : Nat) (v : Fragment) : (s.setRecord r v).cores = s.cores := rfl
@[simp] theorem State.setRecord_ports (r : Nat) (v : Fragment) : (s.setRecord r v).ports = s.ports := rfl
@[simp] theorem State.setRecord_pending (r : Nat) (v : Fragment) : (s.setRecord r v).pending = s.pending := rfl
@[simp] theorem State.setRecord_stream (r : Nat) (v : Fragment) (j : Nat) : (s.setRecord r v).stream j = s.stream j := rfl
@[simp] theorem State.setRecord_function (r : Nat) (v : Fragment) (j : Nat) : (s.setRecord r v).function j = s.function j := rfl
@[simp] theorem State.setRecord_die (r : Nat) (v : Fragment) (j : Nat) : (s.setRecord r v).die j = s.die j := rfl
@[simp] theorem State.setRecord_slot (r : Nat) (v : Fragment) (j : Nat) : (s.setRecord r v).slot j = s.slot j := rfl
@[simp] theorem State.setRecord_binding (r : Nat) (v : Fragment) (a b : Nat) : (s.setRecord r v).binding a b = s.binding a b := rfl
@[simp] theorem State.setRecord_segment (r : Nat) (v : Fragment) (h : Seg) : (s.setRecord r v).segment h = s.segment h := rfl
@[simp] theorem State.setRecord_port (r : Nat) (v : Fragment) (q : Port) : (s.setRecord r v).port q = s.port q := rfl
@[simp] theorem State.setRecord_geo (r : Nat) (v : Fragment) : (s.setRecord r v).geo = s.geo := rfl
@[simp] theorem State.setRecord_core (r : Nat) (v : Fragment) (c : Core) : (s.setRecord r v).core c = s.core c := rfl
@[simp] theorem State.setRecord_segIndex (r : Nat) (v : Fragment) (h : Seg) : (s.setRecord r v).segIndex h = s.segIndex h := rfl
@[simp] theorem State.setRecord_device (r : Nat) (v : Fragment) : (s.setRecord r v).device = s.device := rfl
@[simp] theorem State.setRecord_limits (r : Nat) (v : Fragment) : (s.setRecord r v).limits = s.limits := rfl
@[simp] theorem State.setRecord_tick (r : Nat) (v : Fragment) : (s.setRecord r v).tick = s.tick := rfl

/-! ### setDie -/

@[simp] theorem State.setDie_control (d : Nat) (v : Die) : (s.setDie d v).control = s.control := rfl
@[simp] theorem State.setDie_functions (d : Nat) (v : Die) : (s.setDie d v).functions = s.functions := rfl
@[simp] theorem State.setDie_bindings (d : Nat) (v : Die) : (s.setDie d v).bindings = s.bindings := rfl
@[simp] theorem State.setDie_streams (d : Nat) (v : Die) : (s.setDie d v).streams = s.streams := rfl
@[simp] theorem State.setDie_openReclaim (d : Nat) (v : Die) : (s.setDie d v).openReclaim = s.openReclaim := rfl
@[simp] theorem State.setDie_waitSupply (d : Nat) (v : Die) : (s.setDie d v).waitSupply = s.waitSupply := rfl
@[simp] theorem State.setDie_budget (d : Nat) (v : Die) : (s.setDie d v).budget = s.budget := rfl
@[simp] theorem State.setDie_records (d : Nat) (v : Die) : (s.setDie d v).records = s.records := rfl
@[simp] theorem State.setDie_tenantInUse (d : Nat) (v : Die) : (s.setDie d v).tenantInUse = s.tenantInUse := rfl
@[simp] theorem State.setDie_reclaimInUse (d : Nat) (v : Die) : (s.setDie d v).reclaimInUse = s.reclaimInUse := rfl
@[simp] theorem State.setDie_reports (d : Nat) (v : Die) : (s.setDie d v).reports = s.reports := rfl
@[simp] theorem State.setDie_segments (d : Nat) (v : Die) : (s.setDie d v).segments = s.segments := rfl
@[simp] theorem State.setDie_dies (d : Nat) (v : Die) : (s.setDie d v).dies = Table.write .powerOn s.dies d v := rfl
@[simp] theorem State.setDie_rotation (d : Nat) (v : Die) : (s.setDie d v).rotation = s.rotation := rfl
@[simp] theorem State.setDie_closeSeq (d : Nat) (v : Die) : (s.setDie d v).closeSeq = s.closeSeq := rfl
@[simp] theorem State.setDie_slots (d : Nat) (v : Die) : (s.setDie d v).slots = s.slots := rfl
@[simp] theorem State.setDie_queues (d : Nat) (v : Die) : (s.setDie d v).queues = s.queues := rfl
@[simp] theorem State.setDie_cores (d : Nat) (v : Die) : (s.setDie d v).cores = s.cores := rfl
@[simp] theorem State.setDie_ports (d : Nat) (v : Die) : (s.setDie d v).ports = s.ports := rfl
@[simp] theorem State.setDie_pending (d : Nat) (v : Die) : (s.setDie d v).pending = s.pending := rfl
@[simp] theorem State.setDie_stream (d : Nat) (v : Die) (j : Nat) : (s.setDie d v).stream j = s.stream j := rfl
@[simp] theorem State.setDie_function (d : Nat) (v : Die) (j : Nat) : (s.setDie d v).function j = s.function j := rfl
@[simp] theorem State.setDie_record (d : Nat) (v : Die) (j : Nat) : (s.setDie d v).record j = s.record j := rfl
@[simp] theorem State.setDie_slot (d : Nat) (v : Die) (j : Nat) : (s.setDie d v).slot j = s.slot j := rfl
@[simp] theorem State.setDie_binding (d : Nat) (v : Die) (a b : Nat) : (s.setDie d v).binding a b = s.binding a b := rfl
@[simp] theorem State.setDie_segment (d : Nat) (v : Die) (h : Seg) : (s.setDie d v).segment h = s.segment h := rfl
@[simp] theorem State.setDie_port (d : Nat) (v : Die) (q : Port) : (s.setDie d v).port q = s.port q := rfl
@[simp] theorem State.setDie_geo (d : Nat) (v : Die) : (s.setDie d v).geo = s.geo := rfl
@[simp] theorem State.setDie_core (d : Nat) (v : Die) (c : Core) : (s.setDie d v).core c = s.core c := rfl
@[simp] theorem State.setDie_segIndex (d : Nat) (v : Die) (h : Seg) : (s.setDie d v).segIndex h = s.segIndex h := rfl
@[simp] theorem State.setDie_device (d : Nat) (v : Die) : (s.setDie d v).device = s.device := rfl
@[simp] theorem State.setDie_limits (d : Nat) (v : Die) : (s.setDie d v).limits = s.limits := rfl
@[simp] theorem State.setDie_tick (d : Nat) (v : Die) : (s.setDie d v).tick = s.tick := rfl

/-! ### setSlot -/

@[simp] theorem State.setSlot_control (k : Nat) (v : Slot) : (s.setSlot k v).control = s.control := rfl
@[simp] theorem State.setSlot_functions (k : Nat) (v : Slot) : (s.setSlot k v).functions = s.functions := rfl
@[simp] theorem State.setSlot_bindings (k : Nat) (v : Slot) : (s.setSlot k v).bindings = s.bindings := rfl
@[simp] theorem State.setSlot_streams (k : Nat) (v : Slot) : (s.setSlot k v).streams = s.streams := rfl
@[simp] theorem State.setSlot_openReclaim (k : Nat) (v : Slot) : (s.setSlot k v).openReclaim = s.openReclaim := rfl
@[simp] theorem State.setSlot_waitSupply (k : Nat) (v : Slot) : (s.setSlot k v).waitSupply = s.waitSupply := rfl
@[simp] theorem State.setSlot_budget (k : Nat) (v : Slot) : (s.setSlot k v).budget = s.budget := rfl
@[simp] theorem State.setSlot_records (k : Nat) (v : Slot) : (s.setSlot k v).records = s.records := rfl
@[simp] theorem State.setSlot_tenantInUse (k : Nat) (v : Slot) : (s.setSlot k v).tenantInUse = s.tenantInUse := rfl
@[simp] theorem State.setSlot_reclaimInUse (k : Nat) (v : Slot) : (s.setSlot k v).reclaimInUse = s.reclaimInUse := rfl
@[simp] theorem State.setSlot_reports (k : Nat) (v : Slot) : (s.setSlot k v).reports = s.reports := rfl
@[simp] theorem State.setSlot_segments (k : Nat) (v : Slot) : (s.setSlot k v).segments = s.segments := rfl
@[simp] theorem State.setSlot_dies (k : Nat) (v : Slot) : (s.setSlot k v).dies = s.dies := rfl
@[simp] theorem State.setSlot_rotation (k : Nat) (v : Slot) : (s.setSlot k v).rotation = s.rotation := rfl
@[simp] theorem State.setSlot_closeSeq (k : Nat) (v : Slot) : (s.setSlot k v).closeSeq = s.closeSeq := rfl
@[simp] theorem State.setSlot_slots (k : Nat) (v : Slot) : (s.setSlot k v).slots = Table.write .powerOn s.slots k v := rfl
@[simp] theorem State.setSlot_queues (k : Nat) (v : Slot) : (s.setSlot k v).queues = s.queues := rfl
@[simp] theorem State.setSlot_cores (k : Nat) (v : Slot) : (s.setSlot k v).cores = s.cores := rfl
@[simp] theorem State.setSlot_ports (k : Nat) (v : Slot) : (s.setSlot k v).ports = s.ports := rfl
@[simp] theorem State.setSlot_pending (k : Nat) (v : Slot) : (s.setSlot k v).pending = s.pending := rfl
@[simp] theorem State.setSlot_stream (k : Nat) (v : Slot) (j : Nat) : (s.setSlot k v).stream j = s.stream j := rfl
@[simp] theorem State.setSlot_function (k : Nat) (v : Slot) (j : Nat) : (s.setSlot k v).function j = s.function j := rfl
@[simp] theorem State.setSlot_record (k : Nat) (v : Slot) (j : Nat) : (s.setSlot k v).record j = s.record j := rfl
@[simp] theorem State.setSlot_die (k : Nat) (v : Slot) (j : Nat) : (s.setSlot k v).die j = s.die j := rfl
@[simp] theorem State.setSlot_binding (k : Nat) (v : Slot) (a b : Nat) : (s.setSlot k v).binding a b = s.binding a b := rfl
@[simp] theorem State.setSlot_segment (k : Nat) (v : Slot) (h : Seg) : (s.setSlot k v).segment h = s.segment h := rfl
@[simp] theorem State.setSlot_port (k : Nat) (v : Slot) (q : Port) : (s.setSlot k v).port q = s.port q := rfl
@[simp] theorem State.setSlot_geo (k : Nat) (v : Slot) : (s.setSlot k v).geo = s.geo := rfl
@[simp] theorem State.setSlot_core (k : Nat) (v : Slot) (c : Core) : (s.setSlot k v).core c = s.core c := rfl
@[simp] theorem State.setSlot_segIndex (k : Nat) (v : Slot) (h : Seg) : (s.setSlot k v).segIndex h = s.segIndex h := rfl
@[simp] theorem State.setSlot_device (k : Nat) (v : Slot) : (s.setSlot k v).device = s.device := rfl
@[simp] theorem State.setSlot_limits (k : Nat) (v : Slot) : (s.setSlot k v).limits = s.limits := rfl
@[simp] theorem State.setSlot_tick (k : Nat) (v : Slot) : (s.setSlot k v).tick = s.tick := rfl

/-! ### setBinding -/

@[simp] theorem State.setBinding_control (f k : Nat) (v : Option Nat) : (s.setBinding f k v).control = s.control := rfl
@[simp] theorem State.setBinding_functions (f k : Nat) (v : Option Nat) : (s.setBinding f k v).functions = s.functions := rfl
@[simp] theorem State.setBinding_bindings (f k : Nat) (v : Option Nat) : (s.setBinding f k v).bindings = Table.write none s.bindings (bindingIndex f k) v := rfl
@[simp] theorem State.setBinding_streams (f k : Nat) (v : Option Nat) : (s.setBinding f k v).streams = s.streams := rfl
@[simp] theorem State.setBinding_openReclaim (f k : Nat) (v : Option Nat) : (s.setBinding f k v).openReclaim = s.openReclaim := rfl
@[simp] theorem State.setBinding_waitSupply (f k : Nat) (v : Option Nat) : (s.setBinding f k v).waitSupply = s.waitSupply := rfl
@[simp] theorem State.setBinding_budget (f k : Nat) (v : Option Nat) : (s.setBinding f k v).budget = s.budget := rfl
@[simp] theorem State.setBinding_records (f k : Nat) (v : Option Nat) : (s.setBinding f k v).records = s.records := rfl
@[simp] theorem State.setBinding_tenantInUse (f k : Nat) (v : Option Nat) : (s.setBinding f k v).tenantInUse = s.tenantInUse := rfl
@[simp] theorem State.setBinding_reclaimInUse (f k : Nat) (v : Option Nat) : (s.setBinding f k v).reclaimInUse = s.reclaimInUse := rfl
@[simp] theorem State.setBinding_reports (f k : Nat) (v : Option Nat) : (s.setBinding f k v).reports = s.reports := rfl
@[simp] theorem State.setBinding_segments (f k : Nat) (v : Option Nat) : (s.setBinding f k v).segments = s.segments := rfl
@[simp] theorem State.setBinding_dies (f k : Nat) (v : Option Nat) : (s.setBinding f k v).dies = s.dies := rfl
@[simp] theorem State.setBinding_rotation (f k : Nat) (v : Option Nat) : (s.setBinding f k v).rotation = s.rotation := rfl
@[simp] theorem State.setBinding_closeSeq (f k : Nat) (v : Option Nat) : (s.setBinding f k v).closeSeq = s.closeSeq := rfl
@[simp] theorem State.setBinding_slots (f k : Nat) (v : Option Nat) : (s.setBinding f k v).slots = s.slots := rfl
@[simp] theorem State.setBinding_queues (f k : Nat) (v : Option Nat) : (s.setBinding f k v).queues = s.queues := rfl
@[simp] theorem State.setBinding_cores (f k : Nat) (v : Option Nat) : (s.setBinding f k v).cores = s.cores := rfl
@[simp] theorem State.setBinding_ports (f k : Nat) (v : Option Nat) : (s.setBinding f k v).ports = s.ports := rfl
@[simp] theorem State.setBinding_pending (f k : Nat) (v : Option Nat) : (s.setBinding f k v).pending = s.pending := rfl
@[simp] theorem State.setBinding_stream (f k : Nat) (v : Option Nat) (j : Nat) : (s.setBinding f k v).stream j = s.stream j := rfl
@[simp] theorem State.setBinding_function (f k : Nat) (v : Option Nat) (j : Nat) : (s.setBinding f k v).function j = s.function j := rfl
@[simp] theorem State.setBinding_record (f k : Nat) (v : Option Nat) (j : Nat) : (s.setBinding f k v).record j = s.record j := rfl
@[simp] theorem State.setBinding_die (f k : Nat) (v : Option Nat) (j : Nat) : (s.setBinding f k v).die j = s.die j := rfl
@[simp] theorem State.setBinding_slot (f k : Nat) (v : Option Nat) (j : Nat) : (s.setBinding f k v).slot j = s.slot j := rfl
@[simp] theorem State.setBinding_segment (f k : Nat) (v : Option Nat) (h : Seg) : (s.setBinding f k v).segment h = s.segment h := rfl
@[simp] theorem State.setBinding_port (f k : Nat) (v : Option Nat) (q : Port) : (s.setBinding f k v).port q = s.port q := rfl
@[simp] theorem State.setBinding_geo (f k : Nat) (v : Option Nat) : (s.setBinding f k v).geo = s.geo := rfl
@[simp] theorem State.setBinding_core (f k : Nat) (v : Option Nat) (c : Core) : (s.setBinding f k v).core c = s.core c := rfl
@[simp] theorem State.setBinding_segIndex (f k : Nat) (v : Option Nat) (h : Seg) : (s.setBinding f k v).segIndex h = s.segIndex h := rfl
@[simp] theorem State.setBinding_device (f k : Nat) (v : Option Nat) : (s.setBinding f k v).device = s.device := rfl
@[simp] theorem State.setBinding_limits (f k : Nat) (v : Option Nat) : (s.setBinding f k v).limits = s.limits := rfl
@[simp] theorem State.setBinding_tick (f k : Nat) (v : Option Nat) : (s.setBinding f k v).tick = s.tick := rfl

/-! ### setSegment -/

@[simp] theorem State.setSegment_control (g : Seg) (v : Segment) : (s.setSegment g v).control = s.control := rfl
@[simp] theorem State.setSegment_functions (g : Seg) (v : Segment) : (s.setSegment g v).functions = s.functions := rfl
@[simp] theorem State.setSegment_bindings (g : Seg) (v : Segment) : (s.setSegment g v).bindings = s.bindings := rfl
@[simp] theorem State.setSegment_streams (g : Seg) (v : Segment) : (s.setSegment g v).streams = s.streams := rfl
@[simp] theorem State.setSegment_openReclaim (g : Seg) (v : Segment) : (s.setSegment g v).openReclaim = s.openReclaim := rfl
@[simp] theorem State.setSegment_waitSupply (g : Seg) (v : Segment) : (s.setSegment g v).waitSupply = s.waitSupply := rfl
@[simp] theorem State.setSegment_budget (g : Seg) (v : Segment) : (s.setSegment g v).budget = s.budget := rfl
@[simp] theorem State.setSegment_records (g : Seg) (v : Segment) : (s.setSegment g v).records = s.records := rfl
@[simp] theorem State.setSegment_tenantInUse (g : Seg) (v : Segment) : (s.setSegment g v).tenantInUse = s.tenantInUse := rfl
@[simp] theorem State.setSegment_reclaimInUse (g : Seg) (v : Segment) : (s.setSegment g v).reclaimInUse = s.reclaimInUse := rfl
@[simp] theorem State.setSegment_reports (g : Seg) (v : Segment) : (s.setSegment g v).reports = s.reports := rfl
@[simp] theorem State.setSegment_segments (g : Seg) (v : Segment) : (s.setSegment g v).segments = Table.write .powerOn s.segments (s.segIndex g) v := rfl
@[simp] theorem State.setSegment_dies (g : Seg) (v : Segment) : (s.setSegment g v).dies = s.dies := rfl
@[simp] theorem State.setSegment_rotation (g : Seg) (v : Segment) : (s.setSegment g v).rotation = s.rotation := rfl
@[simp] theorem State.setSegment_closeSeq (g : Seg) (v : Segment) : (s.setSegment g v).closeSeq = s.closeSeq := rfl
@[simp] theorem State.setSegment_slots (g : Seg) (v : Segment) : (s.setSegment g v).slots = s.slots := rfl
@[simp] theorem State.setSegment_queues (g : Seg) (v : Segment) : (s.setSegment g v).queues = s.queues := rfl
@[simp] theorem State.setSegment_cores (g : Seg) (v : Segment) : (s.setSegment g v).cores = s.cores := rfl
@[simp] theorem State.setSegment_ports (g : Seg) (v : Segment) : (s.setSegment g v).ports = s.ports := rfl
@[simp] theorem State.setSegment_pending (g : Seg) (v : Segment) : (s.setSegment g v).pending = s.pending := rfl
@[simp] theorem State.setSegment_stream (g : Seg) (v : Segment) (j : Nat) : (s.setSegment g v).stream j = s.stream j := rfl
@[simp] theorem State.setSegment_function (g : Seg) (v : Segment) (j : Nat) : (s.setSegment g v).function j = s.function j := rfl
@[simp] theorem State.setSegment_record (g : Seg) (v : Segment) (j : Nat) : (s.setSegment g v).record j = s.record j := rfl
@[simp] theorem State.setSegment_die (g : Seg) (v : Segment) (j : Nat) : (s.setSegment g v).die j = s.die j := rfl
@[simp] theorem State.setSegment_slot (g : Seg) (v : Segment) (j : Nat) : (s.setSegment g v).slot j = s.slot j := rfl
@[simp] theorem State.setSegment_binding (g : Seg) (v : Segment) (a b : Nat) : (s.setSegment g v).binding a b = s.binding a b := rfl
@[simp] theorem State.setSegment_port (g : Seg) (v : Segment) (q : Port) : (s.setSegment g v).port q = s.port q := rfl
@[simp] theorem State.setSegment_geo (g : Seg) (v : Segment) : (s.setSegment g v).geo = s.geo := rfl
@[simp] theorem State.setSegment_core (g : Seg) (v : Segment) (c : Core) : (s.setSegment g v).core c = s.core c := rfl
@[simp] theorem State.setSegment_segIndex (g : Seg) (v : Segment) (h : Seg) : (s.setSegment g v).segIndex h = s.segIndex h := rfl
@[simp] theorem State.setSegment_device (g : Seg) (v : Segment) : (s.setSegment g v).device = s.device := rfl
@[simp] theorem State.setSegment_limits (g : Seg) (v : Segment) : (s.setSegment g v).limits = s.limits := rfl
@[simp] theorem State.setSegment_tick (g : Seg) (v : Segment) : (s.setSegment g v).tick = s.tick := rfl

/-! ### setPort -/

@[simp] theorem State.setPort_control (p : Port) (v : PortState) : (s.setPort p v).control = s.control := rfl
@[simp] theorem State.setPort_functions (p : Port) (v : PortState) : (s.setPort p v).functions = s.functions := rfl
@[simp] theorem State.setPort_bindings (p : Port) (v : PortState) : (s.setPort p v).bindings = s.bindings := rfl
@[simp] theorem State.setPort_streams (p : Port) (v : PortState) : (s.setPort p v).streams = s.streams := rfl
@[simp] theorem State.setPort_openReclaim (p : Port) (v : PortState) : (s.setPort p v).openReclaim = s.openReclaim := rfl
@[simp] theorem State.setPort_waitSupply (p : Port) (v : PortState) : (s.setPort p v).waitSupply = s.waitSupply := rfl
@[simp] theorem State.setPort_budget (p : Port) (v : PortState) : (s.setPort p v).budget = s.budget := rfl
@[simp] theorem State.setPort_records (p : Port) (v : PortState) : (s.setPort p v).records = s.records := rfl
@[simp] theorem State.setPort_tenantInUse (p : Port) (v : PortState) : (s.setPort p v).tenantInUse = s.tenantInUse := rfl
@[simp] theorem State.setPort_reclaimInUse (p : Port) (v : PortState) : (s.setPort p v).reclaimInUse = s.reclaimInUse := rfl
@[simp] theorem State.setPort_reports (p : Port) (v : PortState) : (s.setPort p v).reports = s.reports := rfl
@[simp] theorem State.setPort_segments (p : Port) (v : PortState) : (s.setPort p v).segments = s.segments := rfl
@[simp] theorem State.setPort_dies (p : Port) (v : PortState) : (s.setPort p v).dies = s.dies := rfl
@[simp] theorem State.setPort_rotation (p : Port) (v : PortState) : (s.setPort p v).rotation = s.rotation := rfl
@[simp] theorem State.setPort_closeSeq (p : Port) (v : PortState) : (s.setPort p v).closeSeq = s.closeSeq := rfl
@[simp] theorem State.setPort_slots (p : Port) (v : PortState) : (s.setPort p v).slots = s.slots := rfl
@[simp] theorem State.setPort_queues (p : Port) (v : PortState) : (s.setPort p v).queues = s.queues := rfl
@[simp] theorem State.setPort_cores (p : Port) (v : PortState) : (s.setPort p v).cores = s.cores := rfl
@[simp] theorem State.setPort_ports (p : Port) (v : PortState) : (s.setPort p v).ports = s.ports.put p v := rfl
@[simp] theorem State.setPort_pending (p : Port) (v : PortState) : (s.setPort p v).pending = s.pending := rfl
@[simp] theorem State.setPort_stream (p : Port) (v : PortState) (j : Nat) : (s.setPort p v).stream j = s.stream j := rfl
@[simp] theorem State.setPort_function (p : Port) (v : PortState) (j : Nat) : (s.setPort p v).function j = s.function j := rfl
@[simp] theorem State.setPort_record (p : Port) (v : PortState) (j : Nat) : (s.setPort p v).record j = s.record j := rfl
@[simp] theorem State.setPort_die (p : Port) (v : PortState) (j : Nat) : (s.setPort p v).die j = s.die j := rfl
@[simp] theorem State.setPort_slot (p : Port) (v : PortState) (j : Nat) : (s.setPort p v).slot j = s.slot j := rfl
@[simp] theorem State.setPort_binding (p : Port) (v : PortState) (a b : Nat) : (s.setPort p v).binding a b = s.binding a b := rfl
@[simp] theorem State.setPort_segment (p : Port) (v : PortState) (h : Seg) : (s.setPort p v).segment h = s.segment h := rfl
@[simp] theorem State.setPort_geo (p : Port) (v : PortState) : (s.setPort p v).geo = s.geo := rfl
@[simp] theorem State.setPort_core (p : Port) (v : PortState) (c : Core) : (s.setPort p v).core c = s.core c := rfl
@[simp] theorem State.setPort_segIndex (p : Port) (v : PortState) (h : Seg) : (s.setPort p v).segIndex h = s.segIndex h := rfl
@[simp] theorem State.setPort_device (p : Port) (v : PortState) : (s.setPort p v).device = s.device := rfl
@[simp] theorem State.setPort_limits (p : Port) (v : PortState) : (s.setPort p v).limits = s.limits := rfl
@[simp] theorem State.setPort_tick (p : Port) (v : PortState) : (s.setPort p v).tick = s.tick := rfl

/-! ### setControl -/

@[simp] theorem State.setControl_control (v : Control) : (s.setControl v).control = v := rfl
@[simp] theorem State.setControl_functions (v : Control) : (s.setControl v).functions = s.functions := rfl
@[simp] theorem State.setControl_bindings (v : Control) : (s.setControl v).bindings = s.bindings := rfl
@[simp] theorem State.setControl_streams (v : Control) : (s.setControl v).streams = s.streams := rfl
@[simp] theorem State.setControl_openReclaim (v : Control) : (s.setControl v).openReclaim = s.openReclaim := rfl
@[simp] theorem State.setControl_waitSupply (v : Control) : (s.setControl v).waitSupply = s.waitSupply := rfl
@[simp] theorem State.setControl_budget (v : Control) : (s.setControl v).budget = s.budget := rfl
@[simp] theorem State.setControl_records (v : Control) : (s.setControl v).records = s.records := rfl
@[simp] theorem State.setControl_tenantInUse (v : Control) : (s.setControl v).tenantInUse = s.tenantInUse := rfl
@[simp] theorem State.setControl_reclaimInUse (v : Control) : (s.setControl v).reclaimInUse = s.reclaimInUse := rfl
@[simp] theorem State.setControl_reports (v : Control) : (s.setControl v).reports = s.reports := rfl
@[simp] theorem State.setControl_segments (v : Control) : (s.setControl v).segments = s.segments := rfl
@[simp] theorem State.setControl_dies (v : Control) : (s.setControl v).dies = s.dies := rfl
@[simp] theorem State.setControl_rotation (v : Control) : (s.setControl v).rotation = s.rotation := rfl
@[simp] theorem State.setControl_closeSeq (v : Control) : (s.setControl v).closeSeq = s.closeSeq := rfl
@[simp] theorem State.setControl_slots (v : Control) : (s.setControl v).slots = s.slots := rfl
@[simp] theorem State.setControl_queues (v : Control) : (s.setControl v).queues = s.queues := rfl
@[simp] theorem State.setControl_cores (v : Control) : (s.setControl v).cores = s.cores := rfl
@[simp] theorem State.setControl_ports (v : Control) : (s.setControl v).ports = s.ports := rfl
@[simp] theorem State.setControl_pending (v : Control) : (s.setControl v).pending = s.pending := rfl
@[simp] theorem State.setControl_stream (v : Control) (j : Nat) : (s.setControl v).stream j = s.stream j := rfl
@[simp] theorem State.setControl_function (v : Control) (j : Nat) : (s.setControl v).function j = s.function j := rfl
@[simp] theorem State.setControl_record (v : Control) (j : Nat) : (s.setControl v).record j = s.record j := rfl
@[simp] theorem State.setControl_die (v : Control) (j : Nat) : (s.setControl v).die j = s.die j := rfl
@[simp] theorem State.setControl_slot (v : Control) (j : Nat) : (s.setControl v).slot j = s.slot j := rfl
@[simp] theorem State.setControl_binding (v : Control) (a b : Nat) : (s.setControl v).binding a b = s.binding a b := rfl
@[simp] theorem State.setControl_port (v : Control) (q : Port) : (s.setControl v).port q = s.port q := rfl
@[simp] theorem State.setControl_core (v : Control) (c : Core) : (s.setControl v).core c = s.core c := rfl

/-! ### setBudget -/

@[simp] theorem State.setBudget_control (v : Budget) : (s.setBudget v).control = s.control := rfl
@[simp] theorem State.setBudget_functions (v : Budget) : (s.setBudget v).functions = s.functions := rfl
@[simp] theorem State.setBudget_bindings (v : Budget) : (s.setBudget v).bindings = s.bindings := rfl
@[simp] theorem State.setBudget_streams (v : Budget) : (s.setBudget v).streams = s.streams := rfl
@[simp] theorem State.setBudget_openReclaim (v : Budget) : (s.setBudget v).openReclaim = s.openReclaim := rfl
@[simp] theorem State.setBudget_waitSupply (v : Budget) : (s.setBudget v).waitSupply = s.waitSupply := rfl
@[simp] theorem State.setBudget_budget (v : Budget) : (s.setBudget v).budget = v := rfl
@[simp] theorem State.setBudget_records (v : Budget) : (s.setBudget v).records = s.records := rfl
@[simp] theorem State.setBudget_tenantInUse (v : Budget) : (s.setBudget v).tenantInUse = s.tenantInUse := rfl
@[simp] theorem State.setBudget_reclaimInUse (v : Budget) : (s.setBudget v).reclaimInUse = s.reclaimInUse := rfl
@[simp] theorem State.setBudget_reports (v : Budget) : (s.setBudget v).reports = s.reports := rfl
@[simp] theorem State.setBudget_segments (v : Budget) : (s.setBudget v).segments = s.segments := rfl
@[simp] theorem State.setBudget_dies (v : Budget) : (s.setBudget v).dies = s.dies := rfl
@[simp] theorem State.setBudget_rotation (v : Budget) : (s.setBudget v).rotation = s.rotation := rfl
@[simp] theorem State.setBudget_closeSeq (v : Budget) : (s.setBudget v).closeSeq = s.closeSeq := rfl
@[simp] theorem State.setBudget_slots (v : Budget) : (s.setBudget v).slots = s.slots := rfl
@[simp] theorem State.setBudget_queues (v : Budget) : (s.setBudget v).queues = s.queues := rfl
@[simp] theorem State.setBudget_cores (v : Budget) : (s.setBudget v).cores = s.cores := rfl
@[simp] theorem State.setBudget_ports (v : Budget) : (s.setBudget v).ports = s.ports := rfl
@[simp] theorem State.setBudget_pending (v : Budget) : (s.setBudget v).pending = s.pending := rfl
@[simp] theorem State.setBudget_stream (v : Budget) (j : Nat) : (s.setBudget v).stream j = s.stream j := rfl
@[simp] theorem State.setBudget_function (v : Budget) (j : Nat) : (s.setBudget v).function j = s.function j := rfl
@[simp] theorem State.setBudget_record (v : Budget) (j : Nat) : (s.setBudget v).record j = s.record j := rfl
@[simp] theorem State.setBudget_die (v : Budget) (j : Nat) : (s.setBudget v).die j = s.die j := rfl
@[simp] theorem State.setBudget_slot (v : Budget) (j : Nat) : (s.setBudget v).slot j = s.slot j := rfl
@[simp] theorem State.setBudget_binding (v : Budget) (a b : Nat) : (s.setBudget v).binding a b = s.binding a b := rfl
@[simp] theorem State.setBudget_segment (v : Budget) (h : Seg) : (s.setBudget v).segment h = s.segment h := rfl
@[simp] theorem State.setBudget_port (v : Budget) (q : Port) : (s.setBudget v).port q = s.port q := rfl
@[simp] theorem State.setBudget_geo (v : Budget) : (s.setBudget v).geo = s.geo := rfl
@[simp] theorem State.setBudget_core (v : Budget) (c : Core) : (s.setBudget v).core c = s.core c := rfl
@[simp] theorem State.setBudget_segIndex (v : Budget) (h : Seg) : (s.setBudget v).segIndex h = s.segIndex h := rfl
@[simp] theorem State.setBudget_device (v : Budget) : (s.setBudget v).device = s.device := rfl
@[simp] theorem State.setBudget_limits (v : Budget) : (s.setBudget v).limits = s.limits := rfl
@[simp] theorem State.setBudget_tick (v : Budget) : (s.setBudget v).tick = s.tick := rfl

/-! ### setLink -/

@[simp] theorem State.setLink_control (p : Port) (l : Link) : (s.setLink p l).control = s.control := rfl
@[simp] theorem State.setLink_functions (p : Port) (l : Link) : (s.setLink p l).functions = s.functions := rfl
@[simp] theorem State.setLink_bindings (p : Port) (l : Link) : (s.setLink p l).bindings = s.bindings := rfl
@[simp] theorem State.setLink_streams (p : Port) (l : Link) : (s.setLink p l).streams = s.streams := rfl
@[simp] theorem State.setLink_openReclaim (p : Port) (l : Link) : (s.setLink p l).openReclaim = s.openReclaim := rfl
@[simp] theorem State.setLink_waitSupply (p : Port) (l : Link) : (s.setLink p l).waitSupply = s.waitSupply := rfl
@[simp] theorem State.setLink_budget (p : Port) (l : Link) : (s.setLink p l).budget = s.budget := rfl
@[simp] theorem State.setLink_records (p : Port) (l : Link) : (s.setLink p l).records = s.records := rfl
@[simp] theorem State.setLink_tenantInUse (p : Port) (l : Link) : (s.setLink p l).tenantInUse = s.tenantInUse := rfl
@[simp] theorem State.setLink_reclaimInUse (p : Port) (l : Link) : (s.setLink p l).reclaimInUse = s.reclaimInUse := rfl
@[simp] theorem State.setLink_reports (p : Port) (l : Link) : (s.setLink p l).reports = s.reports := rfl
@[simp] theorem State.setLink_segments (p : Port) (l : Link) : (s.setLink p l).segments = s.segments := rfl
@[simp] theorem State.setLink_dies (p : Port) (l : Link) : (s.setLink p l).dies = s.dies := rfl
@[simp] theorem State.setLink_rotation (p : Port) (l : Link) : (s.setLink p l).rotation = s.rotation := rfl
@[simp] theorem State.setLink_closeSeq (p : Port) (l : Link) : (s.setLink p l).closeSeq = s.closeSeq := rfl
@[simp] theorem State.setLink_slots (p : Port) (l : Link) : (s.setLink p l).slots = s.slots := rfl
@[simp] theorem State.setLink_queues (p : Port) (l : Link) : (s.setLink p l).queues = s.queues := rfl
@[simp] theorem State.setLink_cores (p : Port) (l : Link) : (s.setLink p l).cores = s.cores := rfl
@[simp] theorem State.setLink_ports (p : Port) (l : Link) : (s.setLink p l).ports = s.ports.put p { s.port p with link := l } := rfl
@[simp] theorem State.setLink_pending (p : Port) (l : Link) : (s.setLink p l).pending = s.pending := rfl
@[simp] theorem State.setLink_stream (p : Port) (l : Link) (j : Nat) : (s.setLink p l).stream j = s.stream j := rfl
@[simp] theorem State.setLink_function (p : Port) (l : Link) (j : Nat) : (s.setLink p l).function j = s.function j := rfl
@[simp] theorem State.setLink_record (p : Port) (l : Link) (j : Nat) : (s.setLink p l).record j = s.record j := rfl
@[simp] theorem State.setLink_die (p : Port) (l : Link) (j : Nat) : (s.setLink p l).die j = s.die j := rfl
@[simp] theorem State.setLink_slot (p : Port) (l : Link) (j : Nat) : (s.setLink p l).slot j = s.slot j := rfl
@[simp] theorem State.setLink_binding (p : Port) (l : Link) (a b : Nat) : (s.setLink p l).binding a b = s.binding a b := rfl
@[simp] theorem State.setLink_segment (p : Port) (l : Link) (h : Seg) : (s.setLink p l).segment h = s.segment h := rfl
@[simp] theorem State.setLink_geo (p : Port) (l : Link) : (s.setLink p l).geo = s.geo := rfl
@[simp] theorem State.setLink_core (p : Port) (l : Link) (c : Core) : (s.setLink p l).core c = s.core c := rfl
@[simp] theorem State.setLink_segIndex (p : Port) (l : Link) (h : Seg) : (s.setLink p l).segIndex h = s.segIndex h := rfl
@[simp] theorem State.setLink_device (p : Port) (l : Link) : (s.setLink p l).device = s.device := rfl
@[simp] theorem State.setLink_limits (p : Port) (l : Link) : (s.setLink p l).limits = s.limits := rfl
@[simp] theorem State.setLink_tick (p : Port) (l : Link) : (s.setLink p l).tick = s.tick := rfl

/-! ### withPending -/

@[simp] theorem State.withPending_control (l : List Instr) : (s.withPending l).control = s.control := rfl
@[simp] theorem State.withPending_functions (l : List Instr) : (s.withPending l).functions = s.functions := rfl
@[simp] theorem State.withPending_bindings (l : List Instr) : (s.withPending l).bindings = s.bindings := rfl
@[simp] theorem State.withPending_streams (l : List Instr) : (s.withPending l).streams = s.streams := rfl
@[simp] theorem State.withPending_openReclaim (l : List Instr) : (s.withPending l).openReclaim = s.openReclaim := rfl
@[simp] theorem State.withPending_waitSupply (l : List Instr) : (s.withPending l).waitSupply = s.waitSupply := rfl
@[simp] theorem State.withPending_budget (l : List Instr) : (s.withPending l).budget = s.budget := rfl
@[simp] theorem State.withPending_records (l : List Instr) : (s.withPending l).records = s.records := rfl
@[simp] theorem State.withPending_tenantInUse (l : List Instr) : (s.withPending l).tenantInUse = s.tenantInUse := rfl
@[simp] theorem State.withPending_reclaimInUse (l : List Instr) : (s.withPending l).reclaimInUse = s.reclaimInUse := rfl
@[simp] theorem State.withPending_reports (l : List Instr) : (s.withPending l).reports = s.reports := rfl
@[simp] theorem State.withPending_segments (l : List Instr) : (s.withPending l).segments = s.segments := rfl
@[simp] theorem State.withPending_dies (l : List Instr) : (s.withPending l).dies = s.dies := rfl
@[simp] theorem State.withPending_rotation (l : List Instr) : (s.withPending l).rotation = s.rotation := rfl
@[simp] theorem State.withPending_closeSeq (l : List Instr) : (s.withPending l).closeSeq = s.closeSeq := rfl
@[simp] theorem State.withPending_slots (l : List Instr) : (s.withPending l).slots = s.slots := rfl
@[simp] theorem State.withPending_queues (l : List Instr) : (s.withPending l).queues = s.queues := rfl
@[simp] theorem State.withPending_cores (l : List Instr) : (s.withPending l).cores = s.cores := rfl
@[simp] theorem State.withPending_ports (l : List Instr) : (s.withPending l).ports = s.ports := rfl
@[simp] theorem State.withPending_pending (l : List Instr) : (s.withPending l).pending = l := rfl
@[simp] theorem State.withPending_stream (l : List Instr) (j : Nat) : (s.withPending l).stream j = s.stream j := rfl
@[simp] theorem State.withPending_function (l : List Instr) (j : Nat) : (s.withPending l).function j = s.function j := rfl
@[simp] theorem State.withPending_record (l : List Instr) (j : Nat) : (s.withPending l).record j = s.record j := rfl
@[simp] theorem State.withPending_die (l : List Instr) (j : Nat) : (s.withPending l).die j = s.die j := rfl
@[simp] theorem State.withPending_slot (l : List Instr) (j : Nat) : (s.withPending l).slot j = s.slot j := rfl
@[simp] theorem State.withPending_binding (l : List Instr) (a b : Nat) : (s.withPending l).binding a b = s.binding a b := rfl
@[simp] theorem State.withPending_segment (l : List Instr) (h : Seg) : (s.withPending l).segment h = s.segment h := rfl
@[simp] theorem State.withPending_port (l : List Instr) (q : Port) : (s.withPending l).port q = s.port q := rfl
@[simp] theorem State.withPending_geo (l : List Instr) : (s.withPending l).geo = s.geo := rfl
@[simp] theorem State.withPending_core (l : List Instr) (c : Core) : (s.withPending l).core c = s.core c := rfl
@[simp] theorem State.withPending_segIndex (l : List Instr) (h : Seg) : (s.withPending l).segIndex h = s.segIndex h := rfl
@[simp] theorem State.withPending_device (l : List Instr) : (s.withPending l).device = s.device := rfl
@[simp] theorem State.withPending_limits (l : List Instr) : (s.withPending l).limits = s.limits := rfl
@[simp] theorem State.withPending_tick (l : List Instr) : (s.withPending l).tick = s.tick := rfl

/-! ### Reading what was written -/

theorem State.setStream_stream (i : Nat) (v : Stream) (j : Nat) :
    (s.setStream i v).stream j = if j = i then v else s.stream j := Table.read_write ..
@[simp] theorem State.setStream_stream_same (i : Nat) (v : Stream) : (s.setStream i v).stream i = v :=
  Table.read_write_same ..
theorem State.setFunction_function (f : Nat) (v : Function) (j : Nat) :
    (s.setFunction f v).function j = if j = f then v else s.function j := Table.read_write ..
@[simp] theorem State.setFunction_function_same (f : Nat) (v : Function) : (s.setFunction f v).function f = v :=
  Table.read_write_same ..
theorem State.setRecord_record (r : Nat) (v : Fragment) (j : Nat) :
    (s.setRecord r v).record j = if j = r then v else s.record j := Table.read_write ..
@[simp] theorem State.setRecord_record_same (r : Nat) (v : Fragment) : (s.setRecord r v).record r = v :=
  Table.read_write_same ..
theorem State.setDie_die (d : Nat) (v : Die) (j : Nat) :
    (s.setDie d v).die j = if j = d then v else s.die j := Table.read_write ..
@[simp] theorem State.setDie_die_same (d : Nat) (v : Die) : (s.setDie d v).die d = v := Table.read_write_same ..
theorem State.setSlot_slot (k : Nat) (v : Slot) (j : Nat) :
    (s.setSlot k v).slot j = if j = k then v else s.slot j := Table.read_write ..
@[simp] theorem State.setSlot_slot_same (k : Nat) (v : Slot) : (s.setSlot k v).slot k = v := Table.read_write_same ..
theorem State.setBinding_binding (f k : Nat) (v : Option Nat) (a b : Nat) :
    (s.setBinding f k v).binding a b = if bindingIndex a b = bindingIndex f k then v else s.binding a b :=
  Table.read_write ..
@[simp] theorem State.setBinding_binding_same (f k : Nat) (v : Option Nat) : (s.setBinding f k v).binding f k = v :=
  Table.read_write_same ..
theorem State.setSegment_segment (g : Seg) (v : Segment) (h : Seg) :
    (s.setSegment g v).segment h = if s.segIndex h = s.segIndex g then v else s.segment h := Table.read_write ..
@[simp] theorem State.setSegment_segment_same (g : Seg) (v : Segment) : (s.setSegment g v).segment g = v :=
  Table.read_write_same ..
@[simp] theorem Ports.at_put_same (ps : Ports) (p : Port) (v : PortState) : (ps.put p v).at p = v := by cases p <;> rfl
theorem Ports.at_put (ps : Ports) (p : Port) (v : PortState) (q : Port) :
    (ps.put p v).at q = if q = p then v else ps.at q := by cases p <;> cases q <;> rfl
@[simp] theorem Ports.put_at (ps : Ports) (p : Port) : ps.put p (ps.at p) = ps := by cases p <;> rfl
@[simp] theorem Ports.put_put (ps : Ports) (p : Port) (v w : PortState) : (ps.put p v).put p w = ps.put p w := by
  cases p <;> rfl
theorem State.setPort_port (p : Port) (v : PortState) (q : Port) :
    (s.setPort p v).port q = if q = p then v else s.port q := Ports.at_put ..
@[simp] theorem State.setPort_port_same (p : Port) (v : PortState) : (s.setPort p v).port p = v := Ports.at_put_same ..
theorem State.setLink_port (p : Port) (l : Link) (q : Port) :
    (s.setLink p l).port q = if q = p then { s.port p with link := l } else s.port q := Ports.at_put ..
@[simp] theorem State.setLink_port_same (p : Port) (l : Link) : (s.setLink p l).port p = { s.port p with link := l } :=
  Ports.at_put_same ..

/-! ### The link field is written apart from everything else: setLink moves outward -/

@[simp] theorem State.setLink_setStream (p : Port) (l : Link) (i : Nat) (v : Stream) :
    (s.setLink p l).setStream i v = (s.setStream i v).setLink p l := rfl
@[simp] theorem State.setLink_setFunction (p : Port) (l : Link) (f : Nat) (v : Function) :
    (s.setLink p l).setFunction f v = (s.setFunction f v).setLink p l := rfl
@[simp] theorem State.setLink_setRecord (p : Port) (l : Link) (r : Nat) (v : Fragment) :
    (s.setLink p l).setRecord r v = (s.setRecord r v).setLink p l := rfl
@[simp] theorem State.setLink_setDie (p : Port) (l : Link) (d : Nat) (v : Die) :
    (s.setLink p l).setDie d v = (s.setDie d v).setLink p l := rfl
@[simp] theorem State.setLink_setSlot (p : Port) (l : Link) (k : Nat) (v : Slot) :
    (s.setLink p l).setSlot k v = (s.setSlot k v).setLink p l := rfl
@[simp] theorem State.setLink_setBinding (p : Port) (l : Link) (f k : Nat) (v : Option Nat) :
    (s.setLink p l).setBinding f k v = (s.setBinding f k v).setLink p l := rfl
@[simp] theorem State.setLink_setSegment (p : Port) (l : Link) (g : Seg) (v : Segment) :
    (s.setLink p l).setSegment g v = (s.setSegment g v).setLink p l := rfl
@[simp] theorem State.setLink_setControl (p : Port) (l : Link) (v : Control) :
    (s.setLink p l).setControl v = (s.setControl v).setLink p l := rfl
@[simp] theorem State.setLink_setBudget (p : Port) (l : Link) (v : Budget) :
    (s.setLink p l).setBudget v = (s.setBudget v).setLink p l := rfl

/-! ### Two updates of one place -/

@[simp] theorem State.setPort_setPort (p : Port) (v w : PortState) : (s.setPort p v).setPort p w = s.setPort p w := by
  simp [State.setPort]
@[simp] theorem State.setLink_setPort (p : Port) (l : Link) (w : PortState) :
    (s.setLink p l).setPort p w = s.setPort p w := by simp [State.setLink]
@[simp] theorem State.setControl_setControl (v w : Control) : (s.setControl v).setControl w = s.setControl w := rfl
@[simp] theorem State.setBudget_setBudget (v w : Budget) : (s.setBudget v).setBudget w = s.setBudget w := rfl

end Sys2Proof.Machine
end

