-- ==== Sys2Proof/Laws/Requests.lean ====
section
/-! SUPPORT. What the Port Interface Unit does with a request, said once: the end of a step, and the execution of a
request that finds its port ready. -/

namespace Sys2Proof.Machine

/-! ### The end of a step (R173) -/

/-- One line's follow-up changes that port's pulse alone. -/
theorem settlePort_eq (s : State) (p : Port) (t : State) :
    settlePort s p t = t ∨ settlePort s p t = t.setPort p { t.port p with pulse := true } := by
  unfold settlePort
  split
  · exact .inr rfl
  · exact .inl rfl

/-- A port's queues, buffers, flag and mode, without the pulse. -/
def PortState.still (p : PortState) : PortState := { p with pulse := false }

theorem settlePort_still (s : State) (p q : Port) (t : State) :
    ((settlePort s p t).port q).still = (t.port q).still := by
  rcases settlePort_eq s p t with h | h
  · rw [h]
  · rw [h, State.setPort_port]
    split
    · subst_vars; rfl
    · rfl

/-- The end of a step changes no port but for its pulse. -/
theorem settle_still (s : State) (q : Port) (t : State) : ((settle s t).port q).still = (t.port q).still := by
  simp only [settle, settlePort_still]

theorem settlePort_rest (s : State) (p : Port) (t : State) : settlePort s p t = { t with ports := (settlePort s p t).ports } := by
  rcases settlePort_eq s p t with h | h
  · rw [h]
  · rw [h]; rfl

/-- The end of a step changes nothing but ports. -/
theorem settle_rest (s t : State) : settle s t = { t with ports := (settle s t).ports } := by
  unfold settle
  rw [settlePort_rest s .rp, settlePort_rest s .mp1, settlePort_rest s .mp0, settlePort_rest s .fp]

@[simp] theorem settle_control (s t : State) : (settle s t).control = t.control := by rw [settle_rest]
@[simp] theorem settle_functions (s t : State) : (settle s t).functions = t.functions := by rw [settle_rest]
@[simp] theorem settle_bindings (s t : State) : (settle s t).bindings = t.bindings := by rw [settle_rest]
@[simp] theorem settle_streams (s t : State) : (settle s t).streams = t.streams := by rw [settle_rest]
@[simp] theorem settle_openReclaim (s t : State) : (settle s t).openReclaim = t.openReclaim := by rw [settle_rest]
@[simp] theorem settle_waitSupply (s t : State) : (settle s t).waitSupply = t.waitSupply := by rw [settle_rest]
@[simp] theorem settle_budget (s t : State) : (settle s t).budget = t.budget := by rw [settle_rest]
@[simp] theorem settle_records (s t : State) : (settle s t).records = t.records := by rw [settle_rest]
@[simp] theorem settle_tenantInUse (s t : State) : (settle s t).tenantInUse = t.tenantInUse := by rw [settle_rest]
@[simp] theorem settle_reclaimInUse (s t : State) : (settle s t).reclaimInUse = t.reclaimInUse := by rw [settle_rest]
@[simp] theorem settle_reports (s t : State) : (settle s t).reports = t.reports := by rw [settle_rest]
@[simp] theorem settle_segments (s t : State) : (settle s t).segments = t.segments := by rw [settle_rest]
@[simp] theorem settle_dies (s t : State) : (settle s t).dies = t.dies := by rw [settle_rest]
@[simp] theorem settle_rotation (s t : State) : (settle s t).rotation = t.rotation := by rw [settle_rest]
@[simp] theorem settle_closeSeq (s t : State) : (settle s t).closeSeq = t.closeSeq := by rw [settle_rest]
@[simp] theorem settle_slots (s t : State) : (settle s t).slots = t.slots := by rw [settle_rest]
@[simp] theorem settle_queues (s t : State) : (settle s t).queues = t.queues := by rw [settle_rest]
@[simp] theorem settle_cores (s t : State) : (settle s t).cores = t.cores := by rw [settle_rest]
@[simp] theorem settle_pending (s t : State) : (settle s t).pending = t.pending := by rw [settle_rest]

theorem settlePort_eq_self (s : State) (p : Port) (t : State) (h : s.notice p = true ∨ t.notice p = false) :
    settlePort s p t = t := by
  unfold settlePort
  rcases h with h | h <;> simp [h]

/-- A step that makes no notice condition true starts no pulse. -/
theorem settle_eq_self (s t : State) (h : ∀ p, s.notice p = true ∨ t.notice p = false) : settle s t = t := by
  unfold settle
  rw [settlePort_eq_self s .fp t (h _), settlePort_eq_self s .mp0 t (h _), settlePort_eq_self s .mp1 t (h _),
    settlePort_eq_self s .rp t (h _)]

/-- A step that leaves the event queues and the dispatch queues as they were starts no pulse. -/
theorem settle_quiet (s t : State) (hq : t.queues = s.queues) (he : ∀ p, (t.port p).events = (s.port p).events) :
    settle s t = t := by
  apply settle_eq_self
  intro p
  have : t.notice p = s.notice p := by simp only [State.notice, hq, he p]
  cases h : s.notice p
  · exact .inr (by rw [this, h])
  · exact .inl rfl

/-! ### The device-state checks -/

theorem State.whileRun_pass {s : State} (k : Reply) (h : s.device = .run) : s.whileRun k = k := by
  simp [State.whileRun, h]
theorem State.whileRunOrDrain_pass {s : State} (k : Reply) (h : s.working = true) : s.whileRunOrDrain k = k := by
  simp only [State.working, Bool.or_eq_true, decide_eq_true_eq] at h
  rcases h with h | h <;> simp [State.whileRunOrDrain, h]
theorem State.beforeDrain_pass {s : State} (k : Reply) (h : s.device = .config ∨ s.device = .run) :
    s.beforeDrain k = k := by
  rcases h with h | h <;> simp [State.beforeDrain, h]
theorem State.untilDrained_pass {s : State} (k : Reply) (h : s.device ≠ .drained) : s.untilDrained k = k := by
  cases hd : s.device <;> simp_all [State.untilDrained]
theorem State.untilDrained_stop {s : State} (k : Reply) (h : s.device = .drained) : s.untilDrained k = s.refuse .power := by
  simp [State.untilDrained, h]
theorem State.whileConfig_pass {s : State} (k : Reply) (h : s.device = .config) : s.whileConfig k = k := by
  simp [State.whileConfig, h]

@[simp] theorem State.setLink_working (s : State) (p : Port) (l : Link) : (s.setLink p l).working = s.working := rfl

/-! ### A request on a ready port (R165, R167) -/

/-- A request whose port is ready and passes the PIU's checks is executed against the state as it stands, and answered. -/
theorem requestStep_ready (i : Instr) (act : State → Reply) (s : State) (hw : i.wellFormed = true)
    (hr : s.ready i.via.port = true) (hp : permitted i.kind i.via.port = true)
    (hb : s.barred i.via.port i.kind = false) :
    requestStep i act s = settle s (placeResponse i.via.port i.kind i.via.crc (act (s.setLink i.via.port .taken))) := by
  have hreq : (s.port i.via.port).requests = [] := by
    simp only [State.ready, Bool.and_eq_true, List.isEmpty_iff] at hr; exact hr.1
  have hres : s.canRespond i.via.port = true := by
    simp only [State.ready, Bool.and_eq_true, List.isEmpty_iff] at hr; exact hr.2
  have hb' : (s.setLink i.via.port .taken).barred i.via.port i.kind = false := by
    exact hb
  unfold requestStep takeTurn
  rw [if_pos hw, hreq]
  simp [hres, serve, hp, hb']

theorem State.answered_eq (s : State) (i : Instr) (code : Code) (payload : List Byte) :
    s.answered i code payload = s.setPort i.via.port { s.port i.via.port with
      responses := (s.port i.via.port).responses ++ [responseFrame i.kind i.via.crc code.byte payload], link := .taken } := rfl

/-- A refusal that changes nothing: the port gains its response, and nothing else changes. -/
theorem refuse_ready (i : Instr) (s : State) (c : Code) :
    settle s (placeResponse i.via.port i.kind i.via.crc ((s.setLink i.via.port .taken).refuse c)) =
      s.answered i c [] := by
  have e : placeResponse i.via.port i.kind i.via.crc ((s.setLink i.via.port .taken).refuse c) = s.answered i c [] := by
    rw [State.answered_eq]
    simp [placeResponse, State.refuse]
  rw [e, settle_quiet]
  · rfl
  · intro p
    rw [State.answered_eq, State.setPort_port]
    split
    · subst_vars; rfl
    · rfl

theorem State.reaches_ready {s : State} {i : Instr} (h : s.reaches i = true) :
    i.wellFormed = true ∧ s.ready i.via.port = true ∧ permitted i.kind i.via.port = true ∧
      s.barred i.via.port i.kind = false := by
  simp only [State.reaches, Bool.and_eq_true, Bool.not_eq_true'] at h
  exact ⟨h.1.1.1.2, h.1.1.2, h.1.2, h.2⟩

/-- A request that reaches its owner is executed against the state as it stands, and answered. -/
theorem requestStep_reaches (i : Instr) (act : State → Reply) (s : State) (h : s.reaches i = true) :
    requestStep i act s = settle s (placeResponse i.via.port i.kind i.via.crc (act (s.setLink i.via.port .taken))) := by
  obtain ⟨hw, hr, hp, hb⟩ := State.reaches_ready h
  exact requestStep_ready i act s hw hr hp hb

/-- The answer to a request that reaches its owner, whose owner leaves the state u but for the link field. -/
theorem requestStep_settled (i : Instr) (act : State → Reply) (s u : State) (code : Code) (payload : List Byte)
    (h : s.reaches i = true)
    (ha : act (s.setLink i.via.port .taken) = ⟨code, payload, u.setLink i.via.port .taken⟩) :
    requestStep i act s = settle s (u.answered i code payload) := by
  rw [requestStep_reaches i act s h, ha, State.answered_eq]
  simp [placeResponse]

/-- Placing an answer changes no notice condition. -/
@[simp] theorem State.answered_notice (u : State) (i : Instr) (code : Code) (payload : List Byte) (p : Port) :
    (u.answered i code payload).notice p = u.notice p := by
  rw [State.answered_eq]
  simp only [State.notice, State.setPort_queues, State.setPort_port]
  split
  · subst_vars; rfl
  · rfl

/-- The same where the step makes no notice condition true: no pulse starts. -/
theorem requestStep_answered (i : Instr) (act : State → Reply) (s u : State) (code : Code) (payload : List Byte)
    (h : s.reaches i = true)
    (ha : act (s.setLink i.via.port .taken) = ⟨code, payload, u.setLink i.via.port .taken⟩)
    (hn : ∀ p, s.notice p = true ∨ u.notice p = false) : requestStep i act s = u.answered i code payload := by
  rw [requestStep_settled i act s u code payload h ha, settle_eq_self]
  simpa using hn

/-- The same where the owner's act writes no port and no dispatch queue. -/
theorem requestStep_quiet (i : Instr) (act : State → Reply) (s u : State) (code : Code) (payload : List Byte)
    (h : s.reaches i = true)
    (ha : act (s.setLink i.via.port .taken) = ⟨code, payload, u.setLink i.via.port .taken⟩)
    (hq : u.queues = s.queues) (hp : u.ports = s.ports) : requestStep i act s = u.answered i code payload := by
  refine requestStep_answered i act s u code payload h ha fun p => ?_
  have : u.notice p = s.notice p := by simp only [State.notice, State.port, hq, hp]
  rw [this]
  cases s.notice p
  · exact .inr rfl
  · exact .inl rfl

/-- A request that reaches its owner and is refused by it. -/
theorem requestStep_refused (i : Instr) (act : State → Reply) (s : State) (code : Code) (h : s.reaches i = true)
    (ha : act (s.setLink i.via.port .taken) = (s.setLink i.via.port .taken).refuse code) :
    requestStep i act s = s.answered i code [] :=
  requestStep_quiet i act s s code [] h ha rfl rfl

/-- Every request row is the execution step of that request with its owner's act. -/
theorem exec_request (i : Instr) (h : i.isRequest = true) : ∃ act, ∀ s, exec i s = .next (requestStep i act s) := by
  cases i <;> first
    | exact absurd (show false = true from h) (by decide)
    | exact ⟨_, fun _ => rfl⟩

/-- A request that the PIU refuses on a ready port is answered, and nothing else changes. -/
theorem serve_refused (i : Instr) (act : State → Reply) (s : State) (c : Code) (hw : i.wellFormed = true)
    (hr : s.ready i.via.port = true)
    (hs : serve i.via.port i.kind act (s.setLink i.via.port .taken) = (s.setLink i.via.port .taken).refuse c) :
    requestStep i act s = s.answered i c [] := by
  have hr' := hr
  simp only [State.ready, Bool.and_eq_true, List.isEmpty_iff] at hr'
  unfold requestStep takeTurn
  rw [if_pos hw, hr'.1]
  simp only [hr'.2, if_true, hs]
  exact refuse_ready i s c

end Sys2Proof.Machine
end

