-- ==== Sys2Proof/Laws/Frames.lean ====
section
/-! SUPPORT. What the shared operations leave alone, said once for each: `outer` is what no running block writes,
`ledger` what batch assembly and the write points leave alone. -/

namespace Sys2Proof.Machine

/-- Device Control, the bindings, the core states and the waiting commands. -/
def State.outer (s : State) : Control × Table (Option Nat) × Cores × List Instr :=
  (s.control, s.bindings, s.cores, s.pending)

/-- The function records, the Admission Unit's and the record pool's counters, and the reporting order. -/
def State.ledger (s : State) : Table Function × Nat × Budget × Nat × Nat × List Completion :=
  (s.functions, s.openReclaim, s.budget, s.tenantInUse, s.reclaimInUse, s.reports)

theorem State.outer_control {s t : State} (h : t.outer = s.outer) : t.control = s.control := congrArg Prod.fst h
theorem State.outer_bindings {s t : State} (h : t.outer = s.outer) : t.bindings = s.bindings :=
  congrArg (fun x => x.2.1) h
theorem State.outer_cores {s t : State} (h : t.outer = s.outer) : t.cores = s.cores := congrArg (fun x => x.2.2.1) h
theorem State.outer_pending {s t : State} (h : t.outer = s.outer) : t.pending = s.pending :=
  congrArg (fun x => x.2.2.2) h
theorem State.ledger_functions {s t : State} (h : t.ledger = s.ledger) : t.functions = s.functions := congrArg Prod.fst h
theorem State.ledger_openReclaim {s t : State} (h : t.ledger = s.ledger) : t.openReclaim = s.openReclaim :=
  congrArg (fun x => x.2.1) h
theorem State.ledger_budget {s t : State} (h : t.ledger = s.ledger) : t.budget = s.budget := congrArg (fun x => x.2.2.1) h
theorem State.ledger_tenantInUse {s t : State} (h : t.ledger = s.ledger) : t.tenantInUse = s.tenantInUse :=
  congrArg (fun x => x.2.2.2.1) h
theorem State.ledger_reclaimInUse {s t : State} (h : t.ledger = s.ledger) : t.reclaimInUse = s.reclaimInUse :=
  congrArg (fun x => x.2.2.2.2.1) h
theorem State.ledger_reports {s t : State} (h : t.ledger = s.ledger) : t.reports = s.reports :=
  congrArg (fun x => x.2.2.2.2.2) h

/-- A fold keeps what each of its steps keeps. -/
theorem foldl_keeps {α β : Type} (f : State → β) (g : State → α → State) (h : ∀ s x, f (g s x) = f s) (xs : List α)
    (s : State) : f (xs.foldl g s) = f s := by
  induction xs generalizing s with
  | nil => rfl
  | cons x xs ih => rw [List.foldl_cons, ih, h]

/-! ### Updates -/

section
variable (s : State)
@[simp] theorem State.setStream_outer (i : Nat) (v : Stream) : (s.setStream i v).outer = s.outer := rfl
@[simp] theorem State.setFunction_outer (i : Nat) (v : Function) : (s.setFunction i v).outer = s.outer := rfl
@[simp] theorem State.setRecord_outer (i : Nat) (v : Fragment) : (s.setRecord i v).outer = s.outer := rfl
@[simp] theorem State.setDie_outer (i : Nat) (v : Die) : (s.setDie i v).outer = s.outer := rfl
@[simp] theorem State.setSlot_outer (i : Nat) (v : Slot) : (s.setSlot i v).outer = s.outer := rfl
@[simp] theorem State.setSegment_outer (g : Seg) (v : Segment) : (s.setSegment g v).outer = s.outer := rfl
@[simp] theorem State.setPort_outer (p : Port) (v : PortState) : (s.setPort p v).outer = s.outer := rfl
@[simp] theorem State.setBudget_outer (v : Budget) : (s.setBudget v).outer = s.outer := rfl
@[simp] theorem State.setLink_outer (p : Port) (l : Link) : (s.setLink p l).outer = s.outer := rfl
@[simp] theorem State.setStream_ledger (i : Nat) (v : Stream) : (s.setStream i v).ledger = s.ledger := rfl
@[simp] theorem State.setRecord_ledger (i : Nat) (v : Fragment) : (s.setRecord i v).ledger = s.ledger := rfl
@[simp] theorem State.setDie_ledger (i : Nat) (v : Die) : (s.setDie i v).ledger = s.ledger := rfl
@[simp] theorem State.setSlot_ledger (i : Nat) (v : Slot) : (s.setSlot i v).ledger = s.ledger := rfl
@[simp] theorem State.setSegment_ledger (g : Seg) (v : Segment) : (s.setSegment g v).ledger = s.ledger := rfl
@[simp] theorem State.setPort_ledger (p : Port) (v : PortState) : (s.setPort p v).ledger = s.ledger := rfl
@[simp] theorem State.setLink_ledger (p : Port) (l : Link) : (s.setLink p l).ledger = s.ledger := rfl
@[simp] theorem State.setControl_ledger (v : Control) : (s.setControl v).ledger = s.ledger := rfl
@[simp] theorem State.leaveSupply_outer (i : Nat) : (s.leaveSupply i).outer = s.outer := rfl
@[simp] theorem State.leaveSupply_ledger (i : Nat) : (s.leaveSupply i).ledger = s.ledger := rfl
@[simp] theorem State.enqueue_outer (pl : Place) (k : Nat) : (s.enqueue pl k).outer = s.outer := rfl
@[simp] theorem State.enqueue_ledger (pl : Place) (k : Nat) : (s.enqueue pl k).ledger = s.ledger := rfl
@[simp] theorem State.freeSlot_outer (k : Nat) : (s.freeSlot k).outer = s.outer := rfl
@[simp] theorem State.freeSlot_ledger (k : Nat) : (s.freeSlot k).ledger = s.ledger := rfl
@[simp] theorem settle_outer (t : State) : (settle s t).outer = t.outer := by rw [settle_rest]; rfl
@[simp] theorem settle_ledger (t : State) : (settle s t).ledger = t.ledger := by rw [settle_rest]; rfl

/-! ### Events: an event changes ports alone -/

/-- What the queuing of one event can do: it enters its queue at the tail, or is lost and marked. -/
theorem State.emit_eq (p : Port) (e : Event) :
    s.emit p e = s.setPort p (if s.hasRoom p then { s.port p with events := (s.port p).events ++ [e] }
      else { s.port p with lost := true }) := by
  unfold State.emit State.pushEvent
  split <;> rfl

theorem State.emit_rest (p : Port) (e : Event) : s.emit p e = { s with ports := (s.emit p e).ports } := by
  rw [State.emit_eq]; rfl
theorem State.emitToDie_rest (d : Nat) (e : Event) : s.emitToDie d e = { s with ports := (s.emitToDie d e).ports } := by
  unfold State.emitToDie
  split
  · exact State.emit_rest ..
  · rfl
theorem State.emitToCores_rest (e : Event) : s.emitToCores e = { s with ports := (s.emitToCores e).ports } := by
  unfold State.emitToCores
  rw [State.emit_rest, State.emit_rest s]

@[simp] theorem State.emit_outer (p : Port) (e : Event) : (s.emit p e).outer = s.outer := by rw [emit_rest]; rfl
@[simp] theorem State.emit_ledger (p : Port) (e : Event) : (s.emit p e).ledger = s.ledger := by rw [emit_rest]; rfl
@[simp] theorem State.emitToDie_outer (d : Nat) (e : Event) : (s.emitToDie d e).outer = s.outer := by
  rw [emitToDie_rest]; rfl
@[simp] theorem State.emitToDie_ledger (d : Nat) (e : Event) : (s.emitToDie d e).ledger = s.ledger := by
  rw [emitToDie_rest]; rfl
@[simp] theorem State.emitToCores_outer (e : Event) : (s.emitToCores e).outer = s.outer := by
  rw [emitToCores_rest]; rfl
@[simp] theorem State.emitToCores_ledger (e : Event) : (s.emitToCores e).ledger = s.ledger := by
  rw [emitToCores_rest]; rfl
@[simp] theorem State.pushEvent_outer (p : Port) (e : Event) : (s.pushEvent p e).outer = s.outer := rfl
@[simp] theorem State.pushEvent_ledger (p : Port) (e : Event) : (s.pushEvent p e).ledger = s.ledger := rfl

/-! ### Segments and write points -/

@[simp] theorem State.reportSupplyLow_outer (d : Nat) : (s.reportSupplyLow d).outer = s.outer := by
  unfold State.reportSupplyLow; dsimp only; split <;> simp
@[simp] theorem State.reportSupplyLow_ledger (d : Nat) : (s.reportSupplyLow d).ledger = s.ledger := by
  unfold State.reportSupplyLow; dsimp only; split <;> simp
@[simp] theorem State.clearSupplyLow_outer (d : Nat) : (s.clearSupplyLow d).outer = s.outer := by
  unfold State.clearSupplyLow; dsimp only; split <;> simp
@[simp] theorem State.clearSupplyLow_ledger (d : Nat) : (s.clearSupplyLow d).ledger = s.ledger := by
  unfold State.clearSupplyLow; dsimp only; split <;> simp
@[simp] theorem State.openPoint_outer (i d b : Nat) : (s.openPoint i d b).outer = s.outer := rfl
@[simp] theorem State.openPoint_ledger (i d b : Nat) : (s.openPoint i d b).ledger = s.ledger := rfl

/-- What an allocation can do: a die is chosen, the head of its free queue is opened, and its supply is looked at. -/
theorem State.allocate_some {s t : State} {i : Nat} (h : s.allocate i = some t) :
    ∃ d b rest, s.chooseDie (s.stream i).mask = some d ∧ (s.die d).freeQueue = b :: rest ∧
      t = (s.openPoint i d b).reportSupplyLow d := by
  unfold State.allocate at h
  split at h
  · cases h
  · rename_i d hd
    split at h
    · cases h
    · rename_i b rest hq
      exact ⟨d, b, rest, hd, hq, (Option.some.inj h).symm⟩

theorem State.allocate_outer {s t : State} {i : Nat} (h : s.allocate i = some t) : t.outer = s.outer := by
  obtain ⟨d, b, rest, -, -, rfl⟩ := State.allocate_some h; simp
theorem State.allocate_ledger {s t : State} {i : Nat} (h : s.allocate i = some t) : t.ledger = s.ledger := by
  obtain ⟨d, b, rest, -, -, rfl⟩ := State.allocate_some h; simp
@[simp] theorem State.joinSupply_outer (i : Nat) : (s.joinSupply i).outer = s.outer := by
  unfold State.joinSupply; dsimp only; split <;> rfl
@[simp] theorem State.joinSupply_ledger (i : Nat) : (s.joinSupply i).ledger = s.ledger := by
  unfold State.joinSupply; dsimp only; split <;> rfl
@[simp] theorem State.joinSlotWait_outer (d i : Nat) : (s.joinSlotWait d i).outer = s.outer := by
  unfold State.joinSlotWait; dsimp only; split <;> rfl
@[simp] theorem State.joinSlotWait_ledger (d i : Nat) : (s.joinSlotWait d i).ledger = s.ledger := by
  unfold State.joinSlotWait; dsimp only; split <;> rfl
@[simp] theorem State.leaveSlotWait_outer (d i : Nat) : (s.leaveSlotWait d i).outer = s.outer := rfl
@[simp] theorem State.leaveSlotWait_ledger (d i : Nat) : (s.leaveSlotWait d i).ledger = s.ledger := rfl
@[simp] theorem State.leaveOwnSlotWait_outer (i : Nat) : (s.leaveOwnSlotWait i).outer = s.outer := by
  unfold State.leaveOwnSlotWait; split <;> rfl
@[simp] theorem State.leaveOwnSlotWait_ledger (i : Nat) : (s.leaveOwnSlotWait i).ledger = s.ledger := by
  unfold State.leaveOwnSlotWait; split <;> rfl
@[simp] theorem State.dropOpenPoint_outer (d : Nat) : (s.dropOpenPoint d).outer = s.outer := rfl
@[simp] theorem State.dropOpenPoint_ledger (d : Nat) : (s.dropOpenPoint d).ledger = s.ledger := rfl
@[simp] theorem State.detach_outer (i : Nat) (g : Seg) : (s.detach i g).outer = s.outer := rfl
@[simp] theorem State.detach_ledger (i : Nat) (g : Seg) : (s.detach i g).ledger = s.ledger := rfl
@[simp] theorem State.closeSegment_outer (g : Seg) (f : Bool) : (s.closeSegment g f).outer = s.outer := by
  unfold State.closeSegment; dsimp only
  split <;> split <;> simp <;> rfl
@[simp] theorem State.closeSegment_ledger (g : Seg) (f : Bool) : (s.closeSegment g f).ledger = s.ledger := by
  unfold State.closeSegment; dsimp only
  split <;> split <;> simp <;> rfl

/-! ### Batch assembly -/

@[simp] theorem State.setSeal_outer (i : Nat) : (s.setSeal i).outer = s.outer := rfl
@[simp] theorem State.setSeal_ledger (i : Nat) : (s.setSeal i).ledger = s.ledger := rfl
@[simp] theorem State.markPending_outer (i : Nat) : (s.markPending i).outer = s.outer := by
  unfold State.markPending; split <;> rfl
@[simp] theorem State.markPending_ledger (i : Nat) : (s.markPending i).ledger = s.ledger := by
  unfold State.markPending; split <;> rfl
@[simp] theorem State.place_outer (x : Nat × Nat) : (s.place x).outer = s.outer := rfl
@[simp] theorem State.place_ledger (x : Nat × Nat) : (s.place x).ledger = s.ledger := rfl
@[simp] theorem State.countBatch_outer (i : Nat) (g : Seg) (pad : Nat) : (s.countBatch i g pad).outer = s.outer := rfl
@[simp] theorem State.countBatch_ledger (i : Nat) (g : Seg) (pad : Nat) : (s.countBatch i g pad).ledger = s.ledger := rfl
@[simp] theorem State.fillPoint_outer (i : Nat) (g : Seg) : (s.fillPoint i g).outer = s.outer := by
  unfold State.fillPoint; split <;> rfl
@[simp] theorem State.fillPoint_ledger (i : Nat) (g : Seg) : (s.fillPoint i g).ledger = s.ledger := by
  unfold State.fillPoint; split <;> rfl
@[simp] theorem State.cutInto_outer (i : Nat) (g : Seg) (k : Nat) : (s.cutInto i g k).outer = s.outer := by
  simp only [State.cutInto, setSeal_outer, fillPoint_outer, countBatch_outer, enqueue_outer, setSlot_outer]
  exact foldl_keeps State.outer State.place (fun s x => place_outer s x) _ _
@[simp] theorem State.cutInto_ledger (i : Nat) (g : Seg) (k : Nat) : (s.cutInto i g k).ledger = s.ledger := by
  simp only [State.cutInto, setSeal_ledger, fillPoint_ledger, countBatch_ledger, enqueue_ledger, setSlot_ledger]
  exact foldl_keeps State.ledger State.place (fun s x => place_ledger s x) _ _
@[simp] theorem State.cut_outer (i : Nat) (g : Seg) : (s.cut i g).outer = s.outer := by
  unfold State.cut; split <;> simp
@[simp] theorem State.cut_ledger (i : Nat) (g : Seg) : (s.cut i g).ledger = s.ledger := by
  unfold State.cut; split <;> simp
@[simp] theorem State.testPass_outer (i : Nat) : (s.testPass i).1.outer = s.outer := by
  unfold State.testPass; dsimp only
  split
  · split <;> simp
  · split
    · rfl
    · split
      · exact allocate_outer ‹_›
      · simp
@[simp] theorem State.testPass_ledger (i : Nat) : (s.testPass i).1.ledger = s.ledger := by
  unfold State.testPass; dsimp only
  split
  · split <;> simp
  · split
    · rfl
    · split
      · exact allocate_ledger ‹_›
      · simp
end

theorem State.testFor_keeps {β : Type} (f : State → β) (h : ∀ s i, f (State.testPass s i).1 = f s) (n : Nat) (s : State)
    (i : Nat) : f (State.testFor n s i) = f s := by
  induction n generalizing s with
  | zero => rfl
  | succ n ih =>
    unfold State.testFor
    split
    · split
      · rename_i t ht; rw [ih, ← h s i, ht]
      · rename_i t ht; rw [← h s i, ht]
    · rfl

section
variable (s : State)
@[simp] theorem State.test_outer (i : Nat) : (s.test i).outer = s.outer :=
  State.testFor_keeps State.outer (fun s i => testPass_outer s i) _ _ _
@[simp] theorem State.test_ledger (i : Nat) : (s.test i).ledger = s.ledger :=
  State.testFor_keeps State.ledger (fun s i => testPass_ledger s i) _ _ _
@[simp] theorem State.markAndTest_outer (i : Nat) : (s.markAndTest i).outer = s.outer := by
  unfold State.markAndTest; split <;> simp
@[simp] theorem State.markAndTest_ledger (i : Nat) : (s.markAndTest i).ledger = s.ledger := by
  unfold State.markAndTest; split <;> simp
end

theorem State.grantSlots_keeps {β : Type} (f : State → β) (hd : ∀ s d v, f (State.setDie s d v) = f s)
    (ht : ∀ s i, f (State.test s i) = f s) (n : Nat) (s : State) (d : Nat) : f (State.grantSlots n s d) = f s := by
  induction n generalizing s with
  | zero => rfl
  | succ n ih =>
    unfold State.grantSlots; dsimp only
    split
    · rfl
    · split
      · rw [ih, ht, hd]
      · rfl

theorem State.serveSupply_keeps {β : Type} (f : State → β) (hl : ∀ s i, f (State.leaveSupply s i) = f s)
    (ha : ∀ s i t, State.allocate s i = some t → f t = f s) (ht : ∀ s i, f (State.test s i) = f s) (n : Nat) (s : State)
    (d : Nat) : f (State.serveSupply n s d) = f s := by
  induction n generalizing s with
  | zero => rfl
  | succ n ih =>
    unfold State.serveSupply
    split
    · split
      · rfl
      · split
        · rename_i t h; rw [ih, ht, ha _ _ _ h, hl]
        · rfl
    · rfl

section
variable (s : State)
@[simp] theorem State.slotArbiter_outer (d : Nat) : (s.slotArbiter d).outer = s.outer :=
  State.grantSlots_keeps State.outer setDie_outer test_outer _ _ _
@[simp] theorem State.slotArbiter_ledger (d : Nat) : (s.slotArbiter d).ledger = s.ledger :=
  State.grantSlots_keeps State.ledger setDie_ledger test_ledger _ _ _
@[simp] theorem State.supplyArbiter_outer (d : Nat) : (s.supplyArbiter d).outer = s.outer :=
  State.serveSupply_keeps State.outer leaveSupply_outer (fun _ _ _ h => allocate_outer h) test_outer _ _ _
@[simp] theorem State.supplyArbiter_ledger (d : Nat) : (s.supplyArbiter d).ledger = s.ledger :=
  State.serveSupply_keeps State.ledger leaveSupply_ledger (fun _ _ _ h => allocate_ledger h) test_ledger _ _ _

/-! ### Admission, completion and batches -/

@[simp] theorem openBudgetWait_outer (f : Nat) : (openBudgetWait s f).outer = s.outer := by
  unfold openBudgetWait; split
  · split <;> simp
  · rfl
  · rfl
@[simp] theorem State.openBudgetWaits_outer : s.openBudgetWaits.outer = s.outer :=
  foldl_keeps State.outer openBudgetWait openBudgetWait_outer _ _
@[simp] theorem State.lowerHeld_outer (f k : Nat) : (s.lowerHeld f k).outer = s.outer := rfl
@[simp] theorem State.release_outer (f k : Nat) : (s.release f k).outer = s.outer := by simp [State.release]
@[simp] theorem State.openReclaimBudgetWait_outer : s.openReclaimBudgetWait.outer = s.outer := by
  unfold State.openReclaimBudgetWait; split
  · split <;> simp
  · rfl
  · rfl
@[simp] theorem State.releaseReclaim_outer (k : Nat) : (s.releaseReclaim k).outer = s.outer := by
  simp [State.releaseReclaim]
@[simp] theorem State.releaseStream_outer (i k : Nat) : (s.releaseStream i k).outer = s.outer := by
  unfold State.releaseStream; split <;> simp
@[simp] theorem openRecordsWait_outer (f : Nat) : (openRecordsWait s f).outer = s.outer := by
  unfold openRecordsWait; split <;> simp
@[simp] theorem State.openTenantRecordsWaits_outer : s.openTenantRecordsWaits.outer = s.outer :=
  foldl_keeps State.outer openRecordsWait openRecordsWait_outer _ _
@[simp] theorem State.openReclaimRecordsWait_outer : s.openReclaimRecordsWait.outer = s.outer := by
  unfold State.openReclaimRecordsWait; split <;> simp
@[simp] theorem State.returnPoint_outer (i : Nat) (g : Seg) : (s.returnPoint i g).outer = s.outer := by
  unfold State.returnPoint; dsimp only; split <;> simp
@[simp] theorem State.returnPoint_ledger (i : Nat) (g : Seg) : (s.returnPoint i g).ledger = s.ledger := by
  unfold State.returnPoint; dsimp only; split <;> simp
@[simp] theorem State.disposePoint_outer (i : Nat) : (s.disposePoint i).outer = s.outer := by
  unfold State.disposePoint; split
  · rfl
  · split <;> simp
@[simp] theorem State.disposePoint_ledger (i : Nat) : (s.disposePoint i).ledger = s.ledger := by
  unfold State.disposePoint; split
  · rfl
  · split <;> simp
@[simp] theorem State.countClosed_outer (c : StreamClass) (f : Nat) : (s.countClosed c f).outer = s.outer := by
  unfold State.countClosed; split <;> rfl
@[simp] theorem State.emitClosed_outer (i : Nat) (c : StreamClass) (r : Option Port) :
    (s.emitClosed i c r).outer = s.outer := by
  unfold State.emitClosed; dsimp only; split <;> split <;> simp
@[simp] theorem State.completeClose_outer (i : Nat) : (s.completeClose i).outer = s.outer := by
  simp [State.completeClose]
@[simp] theorem State.closeTest_outer (i : Nat) : (s.closeTest i).outer = s.outer := by
  unfold State.closeTest; split <;> simp
@[simp] theorem State.fenceTest_outer (f : Nat) : (s.fenceTest f).outer = s.outer := by
  unfold State.fenceTest; dsimp only; split
  · split <;> simp
  · rfl
@[simp] theorem State.freeRecord_outer (r : Nat) : (s.freeRecord r).outer = s.outer := by
  unfold State.freeRecord; dsimp only; split <;> simp <;> rfl
@[simp] theorem State.report_outer (c : Completion) : (s.report c).outer = s.outer := by
  unfold State.report; dsimp only; split <;> simp <;> rfl
end

theorem State.placeFor_keeps {β : Type} (f : State → β) (h : ∀ s c, f (State.report s c) = f s) (n : Nat) (s : State)
    (p : Port) : f (State.placeFor n s p) = f s := by
  induction n generalizing s with
  | zero => rfl
  | succ n ih =>
    unfold State.placeFor
    split
    · split
      · rw [ih, h]
      · rfl
    · rfl

theorem State.retireFor_keeps {β : Type} (f : State → β) (h : ∀ s i r, f (State.retireHead s i r) = f s) (n : Nat)
    (s : State) (i : Nat) : f (State.retireFor n s i).1 = f s := by
  induction n generalizing s with
  | zero => rfl
  | succ n ih =>
    unfold State.retireFor
    split
    · rfl
    · split
      · exact (ih _).trans (h _ _ _)
      · rfl

section
variable (s : State)
@[simp] theorem State.placeReports_outer (p : Port) : (s.placeReports p).outer = s.outer :=
  State.placeFor_keeps State.outer report_outer _ _ _
@[simp] theorem State.addReport_outer (c : Completion) : (s.addReport c).outer = s.outer :=
  placeReports_outer ..
@[simp] theorem State.flushTest_outer (f : Nat) : (s.flushTest f).outer = s.outer := by
  unfold State.flushTest; split
  · split <;> simp
  · rfl
  · rfl
@[simp] theorem State.retireHead_outer (i r : Nat) : (s.retireHead i r).outer = s.outer := by
  simp [State.retireHead]
@[simp] theorem State.afterRun_outer (c : StreamClass) (f n : Nat) : (s.afterRun c f n).outer = s.outer := by
  unfold State.afterRun; split
  · rfl
  · split <;> simp
@[simp] theorem State.retire_outer (i : Nat) : (s.retire i).1.outer = s.outer := by
  simp only [State.retire, afterRun_outer]
  exact State.retireFor_keeps State.outer retireHead_outer _ _ _
@[simp] theorem State.markRecord_outer (r : Nat) : (s.markRecord r).outer = s.outer := rfl
@[simp] theorem State.discardMarks_outer (i : Nat) (rs : List Nat) : (s.discardMarks i rs).1.outer = s.outer := by
  simp only [State.discardMarks]
  split <;> simp [foldl_keeps State.outer State.markRecord markRecord_outer]
end

/-! ### Results and takeovers -/

section
variable (s : State)
@[simp] theorem State.withdraw_outer (i d : Nat) (ks : List Nat) : (s.withdraw i d ks).outer = s.outer := by
  simp [State.withdraw, foldl_keeps State.outer State.freeSlot freeSlot_outer]
@[simp] theorem State.withdraw_ledger (i d : Nat) (ks : List Nat) : (s.withdraw i d ks).ledger = s.ledger := by
  simp [State.withdraw, foldl_keeps State.ledger State.freeSlot freeSlot_ledger]
@[simp] theorem State.unplace_outer (r : Nat) : (s.unplace r).outer = s.outer := rfl
@[simp] theorem State.unplace_ledger (r : Nat) : (s.unplace r).ledger = s.ledger := rfl
@[simp] theorem State.rewind_outer (i r o : Nat) : (s.rewind i r o).outer = s.outer := by
  unfold State.rewind; split
  · rfl
  · simp [foldl_keeps State.outer State.unplace unplace_outer]
@[simp] theorem State.rewind_ledger (i r o : Nat) : (s.rewind i r o).ledger = s.ledger := by
  unfold State.rewind; split
  · rfl
  · simp [foldl_keeps State.ledger State.unplace unplace_ledger]
@[simp] theorem State.rewindTo_outer (i : Nat) (b : Batch) : (s.rewindTo i b).outer = s.outer := by
  unfold State.rewindTo; split <;> simp
@[simp] theorem State.rewindTo_ledger (i : Nat) (b : Batch) : (s.rewindTo i b).ledger = s.ledger := by
  unfold State.rewindTo; split <;> simp
@[simp] theorem State.loseSegment_outer (i : Nat) (g : Seg) : (s.loseSegment i g).outer = s.outer := by
  simp [State.loseSegment]
@[simp] theorem State.loseSegment_ledger (i : Nat) (g : Seg) : (s.loseSegment i g).ledger = s.ledger := by
  simp [State.loseSegment]
@[simp] theorem State.advance_outer (b : Batch) : (s.advance b).outer = s.outer := rfl
@[simp] theorem State.advance_ledger (b : Batch) : (s.advance b).ledger = s.ledger := rfl
@[simp] theorem State.makeDurable_outer (e : Extent) : (s.makeDurable e).outer = s.outer := rfl
@[simp] theorem State.makeDurable_ledger (e : Extent) : (s.makeDurable e).ledger = s.ledger := rfl
@[simp] theorem State.endFlight_outer (b : Batch) (k : Nat) : (s.endFlight b k).outer = s.outer := rfl
@[simp] theorem State.endFlight_ledger (b : Batch) (k : Nat) : (s.endFlight b k).ledger = s.ledger := rfl
@[simp] theorem State.closeIfDone_outer (g : Seg) : (s.closeIfDone g).outer = s.outer := by
  unfold State.closeIfDone; split <;> simp
@[simp] theorem State.closeIfDone_ledger (g : Seg) : (s.closeIfDone g).ledger = s.ledger := by
  unfold State.closeIfDone; split <;> simp
@[simp] theorem State.emitHalted_outer (i : Nat) : (s.emitHalted i).outer = s.outer := by
  unfold State.emitHalted; dsimp only; split <;> simp
@[simp] theorem State.emitHalted_ledger (i : Nat) : (s.emitHalted i).ledger = s.ledger := by
  unfold State.emitHalted; dsimp only; split <;> simp
@[simp] theorem State.halt_outer (i : Nat) : (s.halt i).outer = s.outer := by simp [State.halt]
@[simp] theorem State.halt_ledger (i : Nat) : (s.halt i).ledger = s.ledger := by simp [State.halt]
@[simp] theorem State.countFailure_outer (i : Nat) : (s.countFailure i).outer = s.outer := by
  unfold State.countFailure; dsimp only; split <;> simp
@[simp] theorem State.countFailure_ledger (i : Nat) : (s.countFailure i).ledger = s.ledger := by
  unfold State.countFailure; dsimp only; split <;> simp
@[simp] theorem State.takeoverStream_outer (i : Nat) : (s.takeoverStream i).outer = s.outer := by
  unfold State.takeoverStream; split
  · rfl
  · split <;> simp
@[simp] theorem State.takeoverStream_ledger (i : Nat) : (s.takeoverStream i).ledger = s.ledger := by
  unfold State.takeoverStream; split
  · rfl
  · split <;> simp
@[simp] theorem State.movePlace_outer (pl : Place) (n : Nat) : (State.movePlace pl s n).outer = s.outer := by
  unfold State.movePlace; split <;> rfl
@[simp] theorem State.movePlace_ledger (pl : Place) (n : Nat) : (State.movePlace pl s n).ledger = s.ledger := by
  unfold State.movePlace; split <;> rfl
@[simp] theorem State.moveQueue_outer (k : Core) (j : Option Core) : (s.moveQueue k j).outer = s.outer := by
  simp only [State.moveQueue]
  exact foldl_keeps State.outer _ (fun s n => movePlace_outer s _ n) _ _
@[simp] theorem State.moveQueue_ledger (k : Core) (j : Option Core) : (s.moveQueue k j).ledger = s.ledger := by
  simp only [State.moveQueue]
  exact foldl_keeps State.ledger _ (fun s n => movePlace_ledger s _ n) _ _
@[simp] theorem State.reassign_outer (j : Option Core) (d : Nat) : (State.reassign j s d).outer = s.outer := rfl
@[simp] theorem State.reassign_ledger (j : Option Core) (d : Nat) : (State.reassign j s d).ledger = s.ledger := rfl
@[simp] theorem State.failCore_ledger (k : Core) : (s.failCore k).ledger = s.ledger := by cases k <;> rfl

/-- A takeover writes, of the outer state, the core states alone. -/
theorem State.takeover_outer (k : Core) : (s.takeover k).outer = (s.failCore k).outer := by
  simp only [State.takeover]
  rw [foldl_keeps State.outer State.test test_outer, foldl_keeps State.outer State.slotArbiter slotArbiter_outer,
    emitToCores_outer, moveQueue_outer, foldl_keeps State.outer State.takeoverStream takeoverStream_outer,
    foldl_keeps State.outer _ fun s d => reassign_outer s _ d]
@[simp] theorem State.takeover_ledger (k : Core) : (s.takeover k).ledger = s.ledger := by
  simp only [State.takeover]
  rw [foldl_keeps State.ledger State.test test_ledger, foldl_keeps State.ledger State.slotArbiter slotArbiter_ledger,
    emitToCores_ledger, moveQueue_ledger, foldl_keeps State.ledger State.takeoverStream takeoverStream_ledger,
    foldl_keeps State.ledger _ fun s d => reassign_ledger s _ d, failCore_ledger]

/-! ### The drain -/

@[simp] theorem State.completeDrain_ledger (n : Nat) : (s.completeDrain n).ledger = s.ledger := by
  simp [State.completeDrain]
theorem State.completeDrain_outer (n : Nat) :
    (s.completeDrain n).outer = ({ s with control := { s.control with device := .drained } } : State).outer := by
  have h : ∀ t : State, (t.setControl { t.control with device := .drained }).outer =
      ({ t.control with device := .drained }, t.outer.2) := fun _ => rfl
  simp only [State.completeDrain]
  rw [h]
  simp only [State.emit_outer]
  rw [State.outer_control (s := s) (by simp)]
  rfl
/-- What the drain completion test can do: nothing, or the drain completes from DRAIN. -/
theorem State.drainTest_cases :
    s.drainTest = s ∨ (s.device = .drain ∧ s.drainReady = true ∧ s.drainTest = s.completeDrain s.chainedCount) := by
  unfold State.drainTest
  split
  · rename_i h
    simp only [Bool.and_eq_true, decide_eq_true_eq] at h
    exact .inr ⟨h.1, h.2, rfl⟩
  · exact .inl rfl
@[simp] theorem State.drainTest_ledger : s.drainTest.ledger = s.ledger := by
  rcases s.drainTest_cases with h | ⟨-, -, h⟩ <;> simp [h]
end

/-- A view of the state that no port update changes is left alone by a request whose owner's act leaves it alone. -/
theorem requestStep_keeps {β : Type} (f : State → β) (hp : ∀ s p v, f (State.setPort s p v) = f s) (i : Instr)
    (act : State → Reply) (s : State) (ha : ∀ t, f (act t).next = f t) : f (requestStep i act s) = f s := by
  have hset : ∀ s t, f (settle s t) = f t := by
    intro s t
    have h1 : ∀ p t, f (settlePort s p t) = f t := by
      intro p t
      rcases settlePort_eq s p t with h | h <;> simp [h, hp]
    simp only [settle, h1]
  have hl : ∀ s p l, f (State.setLink s p l) = f s := fun s p l => hp ..
  have harr : ∀ s p fr, f (State.arrive s p fr) = f s := by
    intro s p fr; unfold State.arrive; split
    · exact hp ..
    · exact hl ..
  have hserve : ∀ p k t, f (serve p k act t).next = f t := by
    intro p k t; unfold serve; split
    · rfl
    · split
      · rfl
      · exact ha t
  have hrefuse : ∀ t p fr, f (State.refuseFrame t p fr) = f t := by
    intro t p fr; unfold State.refuseFrame; split <;> exact hp ..
  have hturn : ∀ p fr c run, (∀ t, f (run t) = f t) → f (takeTurn p fr c run s) = f s := by
    intro p fr c run hr
    unfold takeTurn
    split
    · split
      · rw [hr, hl]
      · exact harr ..
    · split
      · split
        · rw [hr]; exact hp ..
        · rfl
      · exact harr ..
  unfold requestStep
  rw [hset]
  split
  · exact hturn _ _ _ _ fun t => (hp ..).trans (hserve ..)
  · exact hturn _ _ _ _ fun t => hrefuse ..

end Sys2Proof.Machine
end

