-- ==== Sys2Proof/Laws/PerInstr.lean ====
section
/-! SUPPORT. The family Payload: a well-formed command's payload fits a frame (R165 check 2). -/

namespace Sys2Proof.Laws

/-- A well-formed command's payload is no longer than a frame's payload may be. -/
def Payload.Statement (i : Instr) : Prop := i.wellFormed = true → i.payload.length ≤ Config.maxPayload

/-- The length of a counted list whose entries have a fixed width. -/
theorem length_counted {α : Type} (entry : α → List Byte) (w : Nat) (hw : ∀ e, (entry e).length = w)
    (es : List α) :
    (countedBytes entry es).length = 1 + w * es.length := by
  rw [countedBytes, List.length_cons, length_entries entry w hw, Nat.add_comm]

theorem Payload.requestFrameArrival (p : Port) (frame : List Byte) :
    Payload.Statement (.requestFrameArrival p frame) := fun _ => Nat.le_of_ble_eq_true rfl

theorem Payload.invalidFrame (p : Port) (frame : List Byte) :
    Payload.Statement (.invalidFrame p frame) := fun _ => Nat.le_of_ble_eq_true rfl

theorem Payload.responseRead (p : Port) (n : Nat) :
    Payload.Statement (.responseRead p n) := fun _ => Nat.le_of_ble_eq_true rfl

theorem Payload.portReset (p : Port) :
    Payload.Statement (.portReset p) := fun _ => Nat.le_of_ble_eq_true rfl

theorem Payload.powerOnReset :
    Payload.Statement (.powerOnReset) := fun _ => Nat.le_of_ble_eq_true rfl

theorem Payload.powerFailAssertion :
    Payload.Statement (.powerFailAssertion) := fun _ => Nat.le_of_ble_eq_true rfl

theorem Payload.powerFailDeassertion :
    Payload.Statement (.powerFailDeassertion) := fun _ => Nat.le_of_ble_eq_true rfl

theorem Payload.msTick :
    Payload.Statement (.msTick) := fun _ => Nat.le_of_ble_eq_true rfl

theorem Payload.sealExpiry (stream : Nat) :
    Payload.Statement (.sealExpiry stream) := fun _ => Nat.le_of_ble_eq_true rfl

theorem Payload.batchDeadlineExpiry (slot : Nat) :
    Payload.Statement (.batchDeadlineExpiry slot) := fun _ => Nat.le_of_ble_eq_true rfl

theorem Payload.submit (v : Via) (fn hint : Byte) (stream : Half) (tag : Word) (lba : Lba) (region : Byte) (offset : Word)
    (n : Byte) :
    Payload.Statement (.submit v fn hint stream tag lba region offset n) := fun _ => Nat.le_of_ble_eq_true rfl

theorem Payload.flushFunction (v : Via) (fn : Half) (tag : Word) :
    Payload.Statement (.flushFunction v fn tag) := fun _ => Nat.le_of_ble_eq_true rfl

theorem Payload.openStream (v : Via) (fn depth : Byte) (mask : DieMask) :
    Payload.Statement (.openStream v fn depth mask) := fun _ => Nat.le_of_ble_eq_true rfl

theorem Payload.bind (v : Via) (fn hint : Byte) (stream : Half) :
    Payload.Statement (.bind v fn hint stream) := fun _ => Nat.le_of_ble_eq_true rfl

theorem Payload.unbind (v : Via) (fn hint : Byte) :
    Payload.Statement (.unbind v fn hint) := fun _ => Nat.le_of_ble_eq_true rfl

theorem Payload.setStreamMode (v : Via) (stream : Half) (mode : Byte) :
    Payload.Statement (.setStreamMode v stream mode) := fun _ => Nat.le_of_ble_eq_true rfl

theorem Payload.closeStream (v : Via) (stream : Half) :
    Payload.Statement (.closeStream v stream) := fun _ => Nat.le_of_ble_eq_true rfl

theorem Payload.resumeStream (v : Via) (stream : Half) :
    Payload.Statement (.resumeStream v stream) := fun _ => Nat.le_of_ble_eq_true rfl

theorem Payload.discardStream (v : Via) (stream : Half) :
    Payload.Statement (.discardStream v stream) := fun _ => Nat.le_of_ble_eq_true rfl

theorem Payload.setFunction (v : Via) (fn enable : Byte) (reserve cap timeout : Half) :
    Payload.Statement (.setFunction v fn enable reserve cap timeout) := fun _ => Nat.le_of_ble_eq_true rfl

theorem Payload.fenceFunction (v : Via) (fn : Half) (mode : Byte) :
    Payload.Statement (.fenceFunction v fn mode) := fun _ => Nat.le_of_ble_eq_true rfl

theorem Payload.unfenceFunction (v : Via) (fn : Half) :
    Payload.Statement (.unfenceFunction v fn) := fun _ => Nat.le_of_ble_eq_true rfl

theorem Payload.supply (v : Via) (entries : List SegmentName) :
    Payload.Statement (.supply v entries) := fun h => by
  have h : entries.length ≤ _ := of_decide_eq_true h
  have l := length_counted SegmentName.bytes 3 (fun _ => rfl) entries
  simp only [maxCountedEntries] at h
  exact l.le.trans (by simp only [Config.maxPayload]; omega)

theorem Payload.takeBatch (v : Via) :
    Payload.Statement (.takeBatch v) := fun _ => Nat.le_of_ble_eq_true rfl

theorem Payload.takeBatchRepeat (v : Via) (slot : Half) (gen : Byte) :
    Payload.Statement (.takeBatchRepeat v slot gen) := fun _ => Nat.le_of_ble_eq_true rfl

theorem Payload.batchResultDone (v : Via) (slot : Half) (gen : Byte) :
    Payload.Statement (.batchResultDone v slot gen) := fun _ => Nat.le_of_ble_eq_true rfl

theorem Payload.batchResultFailed (v : Via) (slot : Half) (gen : Byte) (result : Byte) :
    Payload.Statement (.batchResultFailed v slot gen result) := fun _ => Nat.le_of_ble_eq_true rfl

theorem Payload.invalidate (v : Via) (entries : List StaleEntry) :
    Payload.Statement (.invalidate v entries) := fun h => by
  have h : entries.length ≤ _ := of_decide_eq_true h
  have l := length_counted StaleEntry.bytes 5 (fun _ => rfl) entries
  simp only [maxCountedEntries] at h
  exact l.le.trans (by simp only [Config.maxPayload]; omega)

theorem Payload.nominate (v : Via) (scope policy filter count : Byte) :
    Payload.Statement (.nominate v scope policy filter count) := fun _ => Nat.le_of_ble_eq_true rfl

theorem Payload.returnSegment (v : Via) (g : SegmentName) :
    Payload.Statement (.returnSegment v g) := fun _ => Nat.le_of_ble_eq_true rfl

theorem Payload.releaseSegment (v : Via) (g : SegmentName) :
    Payload.Statement (.releaseSegment v g) := fun _ => Nat.le_of_ble_eq_true rfl

theorem Payload.retireSegment (v : Via) (g : SegmentName) :
    Payload.Statement (.retireSegment v g) := fun _ => Nat.le_of_ble_eq_true rfl

theorem Payload.setGeometry (v : Via) (dies : Byte) (blocks units : Half) (sectors : Byte) :
    Payload.Statement (.setGeometry v dies blocks units sectors) := fun _ => Nat.le_of_ble_eq_true rfl

theorem Payload.lockGeometry (v : Via) :
    Payload.Statement (.lockGeometry v) := fun _ => Nat.le_of_ble_eq_true rfl

theorem Payload.setLimits (v : Via) (selector : Byte) (value : Half) :
    Payload.Statement (.setLimits v selector value) := fun _ => Nat.le_of_ble_eq_true rfl

theorem Payload.setDieMap (v : Via) (cores : List Byte) :
    Payload.Statement (.setDieMap v cores) := fun h => by
  have h : cores.length = 64 := of_decide_eq_true h
  exact h.le.trans (by decide)

theorem Payload.loadSegment (v : Via) (entries : List LoadEntry) :
    Payload.Statement (.loadSegment v entries) := fun h => by
  have h : entries.length ≤ _ := of_decide_eq_true h
  have l := length_counted LoadEntry.bytes 12 (fun _ => rfl) entries
  simp only [maxLoadEntries] at h
  exact l.le.trans (by simp only [Config.maxPayload]; omega)

theorem Payload.start (v : Via) :
    Payload.Statement (.start v) := fun _ => Nat.le_of_ble_eq_true rfl

theorem Payload.restart (v : Via) :
    Payload.Statement (.restart v) := fun _ => Nat.le_of_ble_eq_true rfl

theorem Payload.queryStream (v : Via) (stream : Half) :
    Payload.Statement (.queryStream v stream) := fun _ => Nat.le_of_ble_eq_true rfl

theorem Payload.queryFunction (v : Via) (fn : Half) :
    Payload.Statement (.queryFunction v fn) := fun _ => Nat.le_of_ble_eq_true rfl

theorem Payload.querySegment (v : Via) (g : SegmentName) :
    Payload.Statement (.querySegment v g) := fun _ => Nat.le_of_ble_eq_true rfl

theorem Payload.queryDie (v : Via) (die : Byte) :
    Payload.Statement (.queryDie v die) := fun _ => Nat.le_of_ble_eq_true rfl

theorem Payload.queryDevice (v : Via) :
    Payload.Statement (.queryDevice v) := fun _ => Nat.le_of_ble_eq_true rfl

theorem Payload.collect (v : Via) (count : Byte) :
    Payload.Statement (.collect v count) := fun _ => Nat.le_of_ble_eq_true rfl

theorem Payload.setNotice (v : Via) (mode : Byte) :
    Payload.Statement (.setNotice v mode) := fun _ => Nat.le_of_ble_eq_true rfl

theorem Payload.fragmentDone (record : Nat) :
    Payload.Statement (.fragmentDone record) := fun _ => Nat.le_of_ble_eq_true rfl

theorem Payload.flushDone (fn : Nat) :
    Payload.Statement (.flushDone fn) := fun _ => Nat.le_of_ble_eq_true rfl

theorem Payload.streamClosed (stream : Nat) :
    Payload.Statement (.streamClosed stream) := fun _ => Nat.le_of_ble_eq_true rfl

theorem Payload.fenceComplete (fn : Nat) :
    Payload.Statement (.fenceComplete fn) := fun _ => Nat.le_of_ble_eq_true rfl

theorem Payload.drainComplete :
    Payload.Statement (.drainComplete) := fun _ => Nat.le_of_ble_eq_true rfl

theorem Payload.dieSlotGrant (die : Nat) :
    Payload.Statement (.dieSlotGrant die) := fun _ => Nat.le_of_ble_eq_true rfl

theorem Payload.waitSupplyServe (die : Nat) :
    Payload.Statement (.waitSupplyServe die) := fun _ => Nat.le_of_ble_eq_true rfl

theorem Payload.noticePulseEnd (p : Port) :
    Payload.Statement (.noticePulseEnd p) := fun _ => Nat.le_of_ble_eq_true rfl

end Sys2Proof.Laws
end

