-- ==== Sys2Proof/Tests/Slice0.lean ====
section
/-! SUPPORT. The tests of the model: ill-formed commands, frames written out from Tables 11-1 to 11-7, the worked examples
of the spec, and for each statement a state and operands that meet its hypotheses. -/

namespace Sys2Proof.Tests

open Sys2Proof Sys2Proof.Machine

set_option Elab.async false

/-! ### Helpers -/

/-- The state after a command. -/
def after (i : Instr) (s : State) : State :=
  match exec i s with
  | .next t => t
  | .fault _ => s
  | .refused _ => s

/-- The newest response of a port after a command. -/
def answer (p : Port) (i : Instr) (s : State) : List Nat :=
  (((after i s).port p).responses.getLast?.getD []).map (·.toNat)

/-- The same state with no response waiting on a port. -/
def State.read (s : State) (p : Port) : State := s.setPort p { s.port p with responses := [] }

def fp : Via := ⟨.fp, false⟩
def mp0 : Via := ⟨.mp0, false⟩
def mp1 : Via := ⟨.mp1, false⟩
def rp : Via := ⟨.rp, false⟩

/-- A die of a core. -/
def dieOf (c : Core) : Die := { Die.powerOn with configured := some c, assigned := some c }

/-- A device in RUN. -/
def running (g : Geometry) (tick : Word) (dies : Table Die) (functions : Table Function) : State :=
  { State.reset with
    control := { Control.powerOn with device := .run, geometry := some g, locked := true, tick := tick }
    dies := dies, functions := functions }

/-- An ENABLED function with a cap of 100. -/
def enabled : Function := { Function.powerOn with state := .enabled, cap := 100 }

/-- A property of the power-on entry and of every listed one holds of every entry. -/
theorem read_all {α : Type} {P : α → Prop} {d : α} (hd : P d) {t : Table α} (h : ∀ c ∈ t, P c.2) (i : Nat) :
    P (Table.read d t i) := by
  induction t with
  | nil => exact hd
  | cons c t ih =>
    obtain ⟨j, w⟩ := c
    simp only [Table.read]
    split
    · exact hd
    · split
      · exact h (j, w) (by simp)
      · exact ih fun c hc => h c (by simp [hc])

/-- A table that lists the same entry at every index from `a` on, `k` of them. -/
theorem read_range {α : Type} (d v : α) (k a n : Nat) (h1 : a ≤ n) (h2 : n < a + k) :
    Table.read d ((List.range' a k).map fun i => (i, v)) n = v := by
  induction k generalizing a with
  | zero => omega
  | succ k ih =>
    simp only [List.range'_succ, List.map_cons, Table.read]
    split
    · omega
    · split
      · rfl
      · exact ih (a + 1) (by omega) (by omega)

/-! ### Well-formed commands -/

theorem test_ill_seal_expiry : (Instr.sealExpiry 1024).wellFormed = false := by decide
theorem test_ill_deadline_expiry : (Instr.batchDeadlineExpiry 512).wellFormed = false := by decide
theorem test_ill_supply : (Instr.supply mp0 (List.replicate 256 ⟨0, 0⟩)).wellFormed = false := by decide +kernel
theorem test_ill_result : (Instr.batchResultFailed mp0 0 0 0).wellFormed = false := by decide
theorem test_ill_invalidate : (Instr.invalidate mp0 (List.replicate 256 ⟨0, 0, 1⟩)).wellFormed = false := by decide +kernel
theorem test_ill_die_map : (Instr.setDieMap mp0 (List.replicate 63 0xFF)).wellFormed = false := by decide +kernel
theorem test_ill_load : (Instr.loadSegment mp0 (List.replicate 256 ⟨0, 0, 0, 0, 0, 0, 0⟩)).wellFormed = false := by
  decide +kernel
theorem test_ill_fragment_done : (Instr.fragmentDone 4096).wellFormed = false := by decide
theorem test_ill_flush_done : (Instr.flushDone 256).wellFormed = false := by decide
theorem test_ill_stream_closed : (Instr.streamClosed 1024).wellFormed = false := by decide
theorem test_ill_fence_complete : (Instr.fenceComplete 256).wellFormed = false := by decide
theorem test_ill_slot_grant : (Instr.dieSlotGrant 64).wellFormed = false := by decide
theorem test_ill_supply_serve : (Instr.waitSupplyServe 64).wellFormed = false := by decide

/-! ### Frames and records (Tables 11-1 to 11-7, 9-3) -/

/-- Table 9-3. -/
theorem test_crc : crc8 [0x01, 0x02] = 0xCC := by decide +kernel

/-- The opcode table gives no row bits. -/
theorem test_no_word : decodeTableWord 32 0x12345678 = none := by decide

theorem test_frame_submit :
    readFrame .fp [0x01, 0, 20, 0, 5, 3, 0, 0, 0x01, 0x90, 0, 0, 0x10, 0x27, 0, 0, 0, 0, 2, 0x00, 0x00, 0x40, 0x00, 21] =
      .request (.submit fp 5 3 0 0x9001 10000 2 0x00400000 21) := by decide +kernel
theorem test_frame_flush : readFrame .fp [0x02, 0, 6, 0, 14, 0, 0x0F, 0x0C, 0, 0] = .request (.flushFunction fp 14 0x0C0F) := by
  decide +kernel
theorem test_frame_open :
    readFrame .mp1 [0x03, 0, 10, 0, 7, 3, 0x00, 0xFF, 0, 0, 0, 0, 0, 0] = .request (.openStream mp1 7 3 0xFF00) := by
  decide +kernel
theorem test_frame_bind_marked :
    readFrame .mp0 [0x04, 1, 4, 0, 7, 1, 13, 0, 0x0C] = .request (.bind ⟨.mp0, true⟩ 7 1 13) := by
  decide +kernel
theorem test_frame_bad_crc : readFrame .mp0 [0x04, 1, 4, 0, 7, 1, 13, 0, 0] = .badFrame := by decide +kernel
theorem test_frame_set_function :
    readFrame .mp0 [0x0A, 0, 8, 0, 7, 1, 0x00, 0x10, 0x00, 0x20, 20, 0] =
      .request (.setFunction mp0 7 1 4096 8192 20) := by decide +kernel
theorem test_frame_fence : readFrame .mp0 [0x0B, 0, 3, 0, 14, 0, 1] = .request (.fenceFunction mp0 14 1) := by decide +kernel
theorem test_frame_supply :
    readFrame .mp1 [0x0D, 0, 7, 0, 2, 7, 0x84, 0x03, 6, 0xC7, 0x01] = .request (.supply mp1 [⟨7, 900⟩, ⟨6, 455⟩]) := by
  decide +kernel
theorem test_frame_take : readFrame .mp0 [0x0E, 0, 0, 0] = .request (.takeBatch mp0) := by decide +kernel
theorem test_frame_take_repeat : readFrame .mp0 [0x0E, 0, 3, 0, 17, 0, 4] = .request (.takeBatchRepeat mp0 17 4) := by
  decide +kernel
theorem test_frame_done : readFrame .mp0 [0x0F, 0, 4, 0, 17, 0, 4, 0] = .request (.batchResultDone mp0 17 4) := by
  decide +kernel
theorem test_frame_failed : readFrame .mp0 [0x0F, 0, 4, 0, 44, 0, 2, 1] = .request (.batchResultFailed mp0 44 2 1) := by
  decide +kernel
theorem test_frame_invalidate :
    readFrame .mp1 [0x10, 0, 6, 0, 1, 2, 40, 0, 0xA0, 0x0F] = .request (.invalidate mp1 [⟨2, 40, 4000⟩]) := by decide +kernel
theorem test_frame_nominate : readFrame .rp [0x11, 0, 4, 0, 0xFF, 1, 3, 8] = .request (.nominate rp 0xFF 1 3 8) := by
  decide +kernel
theorem test_frame_release : readFrame .rp [0x13, 0, 3, 0, 5, 12, 0] = .request (.releaseSegment rp ⟨5, 12⟩) := by
  decide +kernel
theorem test_frame_geometry :
    readFrame .mp0 [0x15, 0, 6, 0, 16, 0x00, 0x04, 0x00, 0x03, 24] = .request (.setGeometry mp0 16 1024 768 24) := by
  decide +kernel
theorem test_frame_limits : readFrame .mp0 [0x17, 0, 3, 0, 5, 0x00, 0x38] = .request (.setLimits mp0 5 14336) := by
  decide +kernel
theorem test_frame_load :
    readFrame .mp0 [0x19, 0, 13, 0, 1, 0, 2, 41, 0, 0x00, 0x24, 0x70, 0x11, 0x01, 0x00, 2, 4] =
      .request (.loadSegment mp0 [⟨0, 2, 41, 9216, 70000, 2, 4⟩]) := by decide +kernel
theorem test_frame_query_segment : readFrame .fp [0x1E, 0, 3, 0, 2, 41, 0] = .request (.querySegment fp ⟨2, 41⟩) := by
  decide +kernel
theorem test_frame_collect : readFrame .rp [0x21, 0, 1, 0, 15] = .request (.collect rp 15) := by decide +kernel

/-- Table 11-7. -/
theorem test_event_bytes : (Event.fragmentDone 0x7A01 22 .durable).bytes =
    [0x01, 0x01, 0x7A, 0, 0, 0x16, 0, 0, 0, 0, 0, 0, 0, 0, 0, 0] := by decide +kernel

/-! ### Worked examples of the spec -/

/-- Section 3.7, with records 0 to 2 for 812 to 814: stream 40 before its first write. -/
def example37 : State :=
  let s := running ⟨16, 1024, 768, 24⟩ 1000 [(6, { dieOf .core1 with inFlight := 1, openPoints := 1 })]
    [(5, { enabled with openStreams := 1 })]
  let s := s.setStream 40 { Stream.opened .tenant 5 0 0x40 with
    state := .active, writePoint := some ⟨6, 310⟩, boundHints := 1 }
  let s := s.setSegment ⟨6, 310⟩ { Segment.powerOn with
    state := .opened, owner := some 40, cls := .tenant, nextUnit := 12, doneUnits := 12 }
  s.setBinding 5 0 (some 40)

/-- The state of stream 40 as a row of Table 3-8: the chain, uncut, in flight, die 6 in flight, the seal, next unit. -/
def row37 (s : State) : List (Nat × Nat × Nat) × Nat × Nat × Nat × Seal × Nat :=
  ((s.stream 40).chain.map fun r => (r, (s.record r).placed, (s.record r).durable), s.uncut 40, (s.stream 40).inFlight,
    (s.die 6).inFlight, (s.stream 40).sealing, (s.segment ⟨6, 310⟩).nextUnit)

def first37 : State := State.read (after (.submit fp 5 0 0 0x9001 10000 2 0x00400000 21) example37) .fp

theorem test_submit_first : row37 first37 = ([(0, 0, 0)], 21, 0, 1, .armed 1020, 12) := by decide +kernel

def second37 : State :=
  State.read (after (.submit fp 5 0 0 0x9002 50000 3 0xFFFFE000 20) (first37.setControl { first37.control with tick := 1004 }))
    .fp

theorem test_submit_cuts : row37 second37 = ([(0, 21, 0), (1, 3, 0)], 17, 1, 2, .armed 1024, 13) := by decide +kernel

def third37 : State :=
  State.read (after (.submit fp 5 0 0 0x9003 70000 1 0 8) (second37.setControl { second37.control with tick := 1009 })) .fp

/-- Table 3-6: the first extent carries into region 4. -/
theorem test_cut_splits_records : ((third37.slot 1).batch.map fun b => (b.real, b.pad, b.unit, b.extents)) =
    some (24, 0, 13, [{ record := 1, lba := 50003, region := 4, offset := 0x1000, sectors := 17, fn := some 5 },
      { record := 2, lba := 70000, region := 1, offset := 0, sectors := 7, fn := some 5 }]) := by decide +kernel

def expired37 : State := after (.sealExpiry 40) (third37.setControl { third37.control with tick := 1029 })

theorem test_seal_expiry_at_depth :
    row37 expired37 = ([(0, 21, 0), (1, 20, 0), (2, 7, 0)], 1, 2, 3, .pending, 14) := by decide +kernel

def taken37 : State := State.read (after (.takeBatch mp1) expired37) .mp1

def done37 : State := after (.batchResultDone mp1 0 0) (taken37.setControl { taken37.control with tick := 1031 })

theorem test_done_retires_and_cuts :
    row37 done37 = ([(1, 20, 3), (2, 8, 0)], 0, 2, 3, .disarmed, 15) ∧
      (done37.port .fp).events = [.fragmentDone 0x9001 40 .durable] ∧ (done37.stream 40).padTotal = 23 ∧
      (done37.function 5).held = 25 := by decide +kernel

/-- R110 on the DONE of batch A: segment, unit 12, done units 13, OPEN, 2 in flight, 1 retired. -/
theorem test_done_answer : ((done37.port .mp1).responses.map fun r => r.map (·.toNat)) =
    [[0x0F, 0, 0, 12, 0, 6, 0x36, 1, 12, 0, 13, 0, 2, 2, 0, 1, 0]] := by decide +kernel

/-- Section 4.8: stream i with its first cut due. -/
def waiting48 (i : Nat) (mask : DieMask) (s : State) : State :=
  (s.setStream i { Stream.opened .tenant 5 0 mask with chain := [i], sealing := .pending }).setRecord i
    { Fragment.powerOn with condition := .chained, stream := i, origin := .tenant 5 0, sectors := 1 }

/-- Section 4.8 at the start. -/
def example48 : State :=
  let s := running ⟨16, 1024, 768, 4⟩ 1000
    [(4, { dieOf .core0 with openPoints := 2, freeQueue := [10, 11, 12, 13, 14, 15] }),
     (5, { dieOf .core0 with openPoints := 1, freeQueue := [40, 41, 42, 43, 44] }),
     (6, { dieOf .core1 with openPoints := 1, freeQueue := [1200], supplyLow := true }),
     (7, { dieOf .core1 with openPoints := 3, supplyLow := true })] [(5, enabled)]
  waiting48 100 0xF0 (waiting48 101 0xF0 (waiting48 102 0xF0 (waiting48 103 0x30 (waiting48 104 0xC0
    (waiting48 105 0x80 { s with rotation := 5 })))))

/-- A row of Table 4-7: open write points and free counts of dies 4 to 7, the pointer, and the WAIT-SUPPLY list. -/
def row48 (s : State) : List Nat × List Nat × Nat × List Nat :=
  ([4, 5, 6, 7].map fun d => (s.die d).openPoints, [4, 5, 6, 7].map fun d => (s.die d).freeQueue.length, s.rotation,
    s.waitSupply)

theorem test_allocation_tie : row48 (example48.test 100) = ([2, 1, 2, 3], [6, 5, 0, 0], 6, []) := by decide +kernel

def allocated48 : State := [100, 101, 102, 103, 104, 105].foldl State.test example48

theorem test_allocations : row48 allocated48 = ([3, 3, 2, 3], [5, 3, 0, 0], 5, [104, 105]) ∧
    (allocated48.port .mp0).events = [.supplyLow 5 3] := by decide +kernel

def supplied48 : State := after (.supply mp1 [⟨7, 900⟩, ⟨7, 901⟩, ⟨6, 455⟩]) allocated48

theorem test_supply_serves_the_waiting : row48 supplied48 = ([3, 3, 2, 5], [5, 3, 1, 0], 7, []) ∧
    (supplied48.stream 104).writePoint = some ⟨7, 900⟩ ∧ (supplied48.stream 105).writePoint = some ⟨7, 901⟩ := by
  decide +kernel

theorem test_supply_wrong_core : answer .mp0 (.supply mp0 [⟨6, 456⟩]) supplied48 = [0x0D, 0, 0, 4, 0, 0, 0, 1, 0x16] := by
  decide +kernel

/-- Section 6.3 without stream 81, with records 0 to 3 for 2100 to 2103 and slots 0 to 2 for 44 to 46. -/
def extent63 (r offset sectors : Nat) : Extent :=
  { record := r, lba := BitVec.ofNat 48 (1000 * r + offset), region := 0, offset := 0, sectors := sectors, fn := some 12 }

def record63 (r n placed durable : Nat) (admitted : Word) : Fragment :=
  { Fragment.powerOn with
    condition := .chained, stream := 70, origin := .tenant 12 0, lba := BitVec.ofNat 48 (1000 * r), sectors := n
    placed := placed, durable := durable, admitted := admitted }

def batch63 (phase : Phase) (unit : Nat) (extents : List Extent) : Batch :=
  { phase := phase, place := .core .core1, stream := 70, cls := .tenant, seg := ⟨9, 505⟩, unit := unit, real := 24, pad := 0,
    extents := extents, overdue := false }

def example63 : State :=
  let s := running ⟨16, 1024, 768, 24⟩ 30258
    [(9, { dieOf .core1 with inFlight := 4, openPoints := 3 }),
     (10, { dieOf .core0 with openPoints := 1, freeQueue := [66, 67, 68, 69, 70, 71, 72] })]
    [(12, { enabled with openStreams := 1, held := 86, outstanding := 4 })]
  let s := s.setStream 70 { Stream.opened .tenant 12 3 0x600 with
    state := .active, writePoint := some ⟨9, 505⟩, inFlight := 3, chain := [0, 1, 2, 3], sealing := .armed 30260 }
  let s := s.setSegment ⟨9, 505⟩ { Segment.powerOn with
    state := .opened, owner := some 70, cls := .tenant, nextUnit := 203, doneUnits := 200, written := 4796, valid := 4650 }
  let s := (((s.setRecord 0 (record63 0 30 30 16 30000)).setRecord 1 (record63 1 40 40 0 30005)).setRecord 2
    (record63 2 20 18 0 30240)).setRecord 3 (record63 3 12 0 0 30251)
  let s := s.setSlot 0 ⟨2, some (batch63 (.taken 30300) 200 [extent63 0 16 14, extent63 1 0 10])⟩
  let s := s.setSlot 1 ⟨2, some (batch63 (.taken 30300) 201 [extent63 1 10 24])⟩
  let s := s.setSlot 2 ⟨7, some (batch63 .queued 202 [extent63 1 34 6, extent63 2 0 18])⟩
  { s with budget := { s.budget with total := 86 }, tenantInUse := 4, closeSeq := 5000
           queues := { s.queues with core1 := [2] } }

theorem test_failed_out_of_order : answer .mp1 (.batchResultFailed mp1 1 2 1) example63 = [0x0F, 0, 0x10, 0, 0] := by
  decide +kernel

def failed63 : State := after (.batchResultFailed mp1 0 2 1) example63

/-- R119: segment, unit 200, two withdrawn tickets, failure count 1, ACTIVE. -/
theorem test_failed_answer : answer .mp1 (.batchResultFailed mp1 0 2 1) example63 =
    [0x0F, 0, 0, 15, 0, 9, 0xF9, 1, 200, 0, 2, 1, 0, 2, 2, 0, 7, 1, 0, 2] := by decide +kernel

theorem test_failed_rewinds_and_recuts :
    (failed63.stream 70).writePoint = some ⟨10, 66⟩ ∧ (failed63.stream 70).inFlight = 3 ∧ failed63.uncut 70 = 14 ∧
      failed63.queues = { core0 := [0, 1, 2], core1 := [], parked := [] } ∧
      ((failed63.slot 1).batch.map fun b => b.extents.map fun e => (e.record, e.lba, e.sectors)) = some [(1, 1010, 24)] ∧
      (failed63.segment ⟨9, 505⟩) = { example63.segment ⟨9, 505⟩ with
        state := .closed, nextUnit := 200, closeSeq := 5001, short := true, failed := true } := by decide +kernel

/-- Table 7-3. -/
def closed77 (cls : SegmentClass) (valid : Nat) (seq : Word) (short failed suspect : Bool) : Segment :=
  { Segment.powerOn with state := .closed, cls := cls, nextUnit := 768, doneUnits := 768, written := valid, valid := valid
                         closeSeq := seq, short := short, failed := failed, suspect := suspect }

def example77 : State :=
  let s := running ⟨16, 1024, 768, 24⟩ 0 [(2, dieOf .core1), (5, dieOf .core0)] []
  let s := (s.setSegment ⟨2, 40⟩ (closed77 .tenant 4608 4800 false false false)).setSegment ⟨2, 41⟩
    (closed77 .unknown 9216 4294903296 false false false)
  let s := (s.setSegment ⟨2, 300⟩ (closed77 .tenant 18432 3000 false false false)).setSegment ⟨5, 11⟩
    (closed77 .reclaim 1 5900 false false false)
  let s := (s.setSegment ⟨5, 12⟩ (closed77 .tenant 0 5990 true true false)).setSegment ⟨5, 13⟩
    (closed77 .tenant 2304 5500 false false true)
  { s with closeSeq := 6000 }

def segs77 (ns : List Nominee) : List (Nat × Nat × Nat) := ns.map fun n => (n.seg.die, n.seg.block, n.score)

theorem test_greedy_ranking : segs77 (example77.ranking none .greedy none) =
    [(5, 12, 65535), (5, 11, 65532), (5, 13, 57343), (2, 40, 49151), (2, 41, 32767), (2, 300, 0)] := by decide +kernel

theorem test_aged_ranking : segs77 (example77.ranking none .aged none) =
    [(5, 12, 10), (2, 41, 21845), (2, 40, 720), (5, 13, 388), (5, 11, 99), (2, 300, 0)] := by decide +kernel

/-- Section 7.8 step 1: the answer's entries, with scores 10, 21,845 and 720. -/
theorem test_nominate_answer : answer .rp (.nominate rp 0xFF 1 3 3) example77 =
    [0x11, 0, 0, 37, 0, 3, 5, 12, 0, 10, 0, 0, 0, 0, 0, 10, 0, 17, 2, 41, 0, 0x55, 0x55, 0, 0x80, 0, 0x24, 0xFF, 0xFF, 4,
      2, 40, 0, 0xD0, 2, 0, 0x40, 0, 0x12, 0xB0, 4, 0] := by decide +kernel

def victims78 : State := State.read (after (.nominate rp 0xFF 1 3 3) example77) .rp

/-- Steps 3 and 4. -/
theorem test_release : answer .rp (.releaseSegment rp ⟨5, 12⟩) victims78 = [0x13, 0, 0, 7, 0, 0, 0, 0x66, 0x17, 0, 0, 2] ∧
    ((after (.releaseSegment rp ⟨5, 12⟩) victims78).port .mp0).events = [.segmentReleased ⟨5, 12⟩] ∧
    answer .rp (.releaseSegment rp ⟨2, 40⟩) victims78 = [0x13, 0, 0x13, 2, 0, 0, 0x12] := by decide +kernel

/-- Step 5, after step 3. -/
theorem test_invalidate : answer .mp1 (.invalidate mp1 [⟨2, 40, 4000⟩, ⟨2, 40, 700⟩, ⟨5, 12, 5⟩, ⟨2, 41, 9216⟩])
    (after (.releaseSegment rp ⟨5, 12⟩) victims78) = [0x10, 0, 0, 6, 0, 2, 0, 1, 0, 1, 0] := by decide +kernel

/-- Section 8.3, with records 0 to 3 for 3000, 3001, 3002 and 3010. -/
def record83 (stream : Nat) (tag serial : Word) (n placed : Nat) : Fragment :=
  { Fragment.powerOn with condition := .chained, stream := stream, origin := .tenant 14 serial, tag := tag, sectors := n
                          placed := placed }

def extent83 (r sectors : Nat) : Extent :=
  { record := r, lba := 0, region := 0, offset := 0, sectors := sectors, fn := some 14 }

def batch83 : Batch :=
  { phase := .taken 1200, place := .core .core0, stream := 90, cls := .tenant, seg := ⟨4, 200⟩, unit := 50, real := 24
    pad := 0, extents := [extent83 0 20, extent83 1 4], overdue := false }

def example83 : State :=
  let s := running ⟨16, 1024, 768, 24⟩ 1000 [(4, { dieOf .core0 with inFlight := 1, openPoints := 1 })]
    [(14, { enabled with openStreams := 2, held := 48, outstanding := 4, serial := 501, flush := .pending 501 0x0C0F })]
  let s := s.setStream 90 { Stream.opened .tenant 14 1 0x10 with
    state := .active, writePoint := some ⟨4, 200⟩, inFlight := 1, chain := [0, 1, 2], sealing := .pending }
  let s := s.setStream 91 { Stream.opened .tenant 14 0 0x20 with state := .waitSupply, chain := [3], sealing := .pending }
  let s := (((s.setRecord 0 (record83 90 30 497 20 20)).setRecord 1 (record83 90 31 498 14 4)).setRecord 2
    (record83 90 32 500 6 0)).setRecord 3 (record83 91 40 499 8 0)
  let s := s.setSegment ⟨4, 200⟩ { Segment.powerOn with
    state := .opened, owner := some 90, cls := .tenant, nextUnit := 51, doneUnits := 50, written := 1200, valid := 1200 }
  let s := s.setSlot 60 ⟨1, some batch83⟩
  { s with budget := { s.budget with total := 48 }, tenantInUse := 4, waitSupply := [91] }

def fenced83 : State := State.read (after (.fenceFunction mp0 14 0) example83) .mp0

/-- Table 8-3 step 1. -/
theorem test_fence_discards : (fenced83.function 14).held = 24 ∧ (fenced83.function 14).outstanding = 3 ∧
    (fenced83.function 14).fence = some (.discard, .mp0) ∧ (fenced83.stream 91).state = .idle ∧ fenced83.waitSupply = [] ∧
    (fenced83.port .fp).events = [.fragmentDone 40 91 .discarded] := by decide +kernel

/-- Step 2. -/
theorem test_submit_fenced : answer .fp (.submit fp 14 0 0 0 0 0 0 1) fenced83 = [0x01, 0, 0x0B, 0, 0] ∧
    ((after (.submit fp 14 0 0 0 0 0 0 1) fenced83).function 14).violations = 1 := by decide +kernel

/-- Step 3, with the one violation of step 2: the reports, the fence and the flush complete in that order. -/
theorem test_fence_completes :
    let t := after (.batchResultDone mp0 60 1) (after (.submit fp 14 0 0 0 0 0 0 1) fenced83)
    (t.port .fp).events = [.fragmentDone 40 91 .discarded, .fragmentDone 30 90 .durable, .fragmentDone 31 90 .discarded,
        .fragmentDone 32 90 .discarded, .flushDone 14 0x0C0F] ∧
      (t.port .mp0).events = [.fenceComplete 14 1] ∧ (t.function 14).held = 0 ∧ (t.function 14).flush = .none := by
  decide +kernel

/-- Table 2-6: the headroom of f3 at steps 0, 4 and 11. -/
def budget29 (h1 h3 total unused : Nat) : State :=
  { running ⟨16, 1024, 768, 24⟩ 0 [] [(1, { enabled with reserve := 4096, cap := 8192, held := h1 }),
      (3, { enabled with cap := 6000, held := h3 })] with
    budget := { total := total, unused := unused, reclaimHeld := 0, reclaimWait := .none } }

theorem test_headroom : (budget29 1000 5000 8048 3096).headroom 3 = 1000 ∧
    (budget29 1000 5064 13300 3096).headroom 3 = -12 ∧ (budget29 1040 5064 13244 3056).headroom 3 = 84 := by decide +kernel

/-- Section 2.10, with one more candidate rule: HALTED and PENDING streams are passed over. -/
def stream210 (state : StreamState) (sealing : Seal) (r : Nat) : Stream :=
  { Stream.opened .tenant 5 0 1 with state := state, sealing := sealing, chain := [r] }

def example210 : State :=
  let s := running ⟨16, 1024, 768, 24⟩ 50000 [] [(5, enabled)]
  let s := (s.setStream 40 (stream210 .active (.armed 50010) 0)).setStream 41 (stream210 .active .pending 1)
  let s := (s.setStream 57 (stream210 .idle .disarmed 2)).setStream 63 (stream210 .halted (.armed 50010) 3)
  let record (t : Word) : Fragment := { Fragment.powerOn with condition := .chained, sectors := 4, admitted := t }
  (((s.setRecord 0 (record 49990)).setRecord 1 (record 49980)).setRecord 2 (record 49994)).setRecord 3 (record 49970)

theorem test_pressure_names_the_oldest : example210.pressureStream = some 40 := by decide +kernel

/-- Section 1.11 steps 1 and 2: streams 0 to 11 are open. -/
def example111 : State :=
  { running ⟨16, 1024, 768, 24⟩ 0 [] [(7, enabled)] with
    streams := (List.range' 0 12).map fun i => (i, Stream.opened .tenant 9 0 1) }

theorem test_open_lowest : answer .mp0 (.openStream mp0 7 0 0x00FF) example111 = [0x03, 0, 0, 2, 0, 12, 0] ∧
    ((after (.openStream mp0 7 0 0x00FF) example111).stream 12).depth = 2 ∧
    ((after (.openStream mp0 7 0 0x00FF) example111).function 7).openStreams = 1 := by decide +kernel

/-- Table 9-4 steps 4 to 6: two requests wait behind two unread responses, and the third meets BUSY. -/
def unread94 : State :=
  [3, 4, 5, 6].foldl (fun s x => after (.queryStream mp0 x) s) (running ⟨16, 1024, 768, 24⟩ 0 [] [])

theorem test_buffers_fill : (unread94.port .mp0).requests = [[0x1C, 0, 2, 0, 5, 0], [0x1C, 0, 2, 0, 6, 0]] ∧
    (unread94.port .mp0).responses.length = 2 := by decide +kernel

theorem test_busy : ((after (.requestFrameArrival .mp0 [0x1C, 0, 2, 0, 7, 0]) unread94).port .mp0).link = .busy := by
  decide +kernel

/-- Steps 8 and 9: a whole read empties a buffer, and the oldest waiting request is executed. -/
theorem test_waiting_request :
    let t := after (.responseRead .mp0 1280) unread94
    (t.port .mp0).responses.length = 1 ∧
      ((after (.queryStream mp0 5) t).port .mp0).requests = [[0x1C, 0, 2, 0, 6, 0]] ∧
      ((after (.queryStream mp0 5) t).port .mp0).responses.length = 2 := by decide +kernel

/-! ### Hypotheses of the statements: the whole machine and the ports -/

/-- Two dies, one of each core, and function 5 ENABLED with one open stream. -/
def base : State :=
  running ⟨2, 16, 16, 4⟩ 1000 [(0, dieOf .core0), (1, dieOf .core1)] [(5, { enabled with openStreams := 1 })]

/-- The same device in another device state. -/
def inState (d : DeviceState) (s : State) : State := s.setControl { s.control with device := d }

/-- Core 0 FAILED. -/
def oneCore (s : State) : State := { s with cores := { s.cores with core0 := .failed } }

theorem witness_RequestFramesReadBack :
    (Instr.setDieMap mp0 (List.replicate 64 0xFF)).isRequest = true ∧
      (Instr.setDieMap mp0 (List.replicate 64 0xFF)).wellFormed = true ∧
      (Instr.supply ⟨.mp1, true⟩ (List.replicate 255 ⟨63, 4095⟩)).wellFormed = true ∧
      (Instr.batchResultFailed mp0 511 255 1).wellFormed = true := by decide +kernel

theorem witness_ArrivalThenExecution : (Instr.bind mp0 5 7 1023).isRequest = true ∧
    (Instr.bind mp0 5 7 1023).wellFormed = true ∧ base.ready (Instr.bind mp0 5 7 1023).via.port = true ∧
      base.ready .rp = true := by decide +kernel

theorem witness_TablesStayCanonical : (example63.withPending [.batchResultFailed mp1 0 2 1]).canonical = true ∧
    ∃ t, step (example63.withPending [.batchResultFailed mp1 0 2 1]) = .next t := ⟨by decide +kernel, _, rfl⟩

theorem witness_PortsStayWithinCapacity :
    (unread94.withPending [.requestFrameArrival .mp0 [1, 2, 3]]).withinCapacity = true ∧
      ∃ t, step (unread94.withPending [.requestFrameArrival .mp0 [1, 2, 3]]) = .next t := ⟨by decide +kernel, _, rfl⟩

theorem witness_AdmissionLawIsKept : (example63.withPending [.discardStream mp0 70]).admissionLaw = true ∧
    ∃ t, step (example63.withPending [.discardStream mp0 70]) = .next t := ⟨by decide +kernel, _, rfl⟩

theorem witness_LockedGeometryIsKept : Instr.setGeometry mp0 2 16 16 4 ≠ .powerOnReset ∧ base.control.locked = true ∧
    ∃ t, exec (.setGeometry mp0 2 16 16 4) base = .next t := ⟨by decide, by decide, _, rfl⟩

theorem witness_DrainIsLeftByReset : Instr.restart mp0 ≠ .powerOnReset ∧ (inState .drain base).device = .drain ∧
    (inState .drained base).device = .drained ∧ (∃ t, exec (.restart mp0) (inState .drain base) = .next t) ∧
      ∃ t, exec (.restart mp0) (inState .drained base) = .next t :=
  ⟨by decide, by decide, by decide, ⟨_, rfl⟩, ⟨_, rfl⟩⟩

theorem witness_LinkAndClockCommands :
    (base.port .fp).requests.length < 2 ∧ 2 ≤ (unread94.port .mp0).requests.length := by decide +kernel

/-- A response waits on FP. -/
def answered : State := base.setPort .fp { base.port .fp with responses := [[0x22, 0, 0, 0, 0]] }

theorem witness_ResponsesAreReadWholeOrLeft : (base.port .fp).responses = [] ∧
    (answered.port .fp).responses = [0x22, 0, 0, 0, 0] :: [] ∧ ([0x22, 0, 0, 0, 0] : List Byte).length ≤ 5 ∧
    4 < ([0x22, 0, 0, 0, 0] : List Byte).length := by decide

/-- Each frame's checks: payload length 1,281; a wrong CRC byte; the kinds 00h and 23h. -/
theorem witness_InvalidFramesAreRefused_bytes : 1280 < (join16 0x01 0x05).toNat ∧
    crc8 (([0x04, 1, 4, 0, 7, 1, 13, 0] : List Byte).take 8) ≠ ([7, 1, 13, 0, 0x0D] : List Byte).getD 4 0 ∧
    ([] : List Byte).length = (join16 0 0).toNat ∧ (0x22 : Byte).toNat < (0x23 : Byte).toNat := by decide +kernel

theorem witness_InvalidFramesAreRefused : base.ready .mp0 = true ∧ ([0x20, 0, 0] : List Byte).length < 4 ∧
    readFrame .mp0 [0x02, 0, 6, 0, 5, 0, 0, 0, 0, 0] = .request (.flushFunction mp0 5 0) ∧ permitted 0x02 .mp0 = false ∧
    (oneCore base).ready .mp0 = true ∧ readFrame .mp0 [0x0E, 0, 0, 0] = .request (.takeBatch mp0) ∧
    permitted 0x0E .mp0 = true ∧ (oneCore base).barred .mp0 0x0E = true := by decide +kernel

theorem witness_RequestsWaitTheirTurn : (Instr.queryStream mp0 5).isRequest = true ∧
    (Instr.queryStream mp0 5).wellFormed = true ∧
    (unread94.port .mp0).requests = [[0x1C, 0, 2, 0, 5, 0], [0x1C, 0, 2, 0, 6, 0]] ∧
    readFrame .mp0 [0x1C, 0, 2, 0, 5, 0] = .request (.queryStream mp0 5) ∧ unread94.canRespond .mp0 = false ∧
    readFrame .mp0 [0x1C, 0, 2, 0, 5, 0] ≠ .request (.queryStream mp0 6) := by decide +kernel

theorem witness_UnpermittedRequestsChangeNothing : (Instr.flushFunction mp0 5 0).isRequest = true ∧
    (Instr.flushFunction mp0 5 0).wellFormed = true ∧ base.ready .mp0 = true ∧
    permitted (Instr.flushFunction mp0 5 0).kind .mp0 = false ∧ permitted (Instr.takeBatch mp0).kind .mp0 = true ∧
    (oneCore base).ready .mp0 = true ∧ (oneCore base).barred .mp0 (Instr.takeBatch mp0).kind = true := by decide +kernel

theorem witness_CollectGivesTheOldestEvents : base.reaches (.collect fp 0) = true ∧ base.reaches (.collect fp 16) = true ∧
    base.reaches (.collect fp 1) = true ∧ base.reaches (.collect fp 15) = true ∧ base.oldestReport .fp = none := by
  decide +kernel

theorem witness_SetNoticeSetsTheMode : (inState .drained base).reaches (.setNotice mp0 1) = true ∧
    base.reaches (.setNotice mp0 2) = true ∧ base.device ≠ .drained ∧ noticeModeOf 1 = some .pulse ∧
    base.reaches (.setNotice mp0 1) = true ∧ base.reaches (.setNotice mp0 0) = true ∧ (base.port .mp0).mode ≠ .pulse ∧
    noticeModeOf 0 = some .level ∧ (base.port .mp0).mode = .level := by decide +kernel

/-! ### Hypotheses of the statements: streams -/

/-- Stream 40 of function 5, bound to hint 0. -/
def bound : State :=
  (base.setStream 40 { Stream.opened .tenant 5 0 3 with boundHints := 1 }).setBinding 5 0 (some 40)

/-- Stream 40 in another form. -/
def stream40 (f : Stream → Stream) (s : State) : State := s.setStream 40 (f (s.stream 40))

/-- Stream 3, a RECLAIM stream. -/
def relocating : State := { base.setStream 3 (Stream.opened .reclaim 0 0 3) with openReclaim := 1 }

/-- Every context open. -/
def allOpen : State := { base with streams := (List.range' 0 1024).map fun i => (i, Stream.opened .tenant 5 0 1) }

theorem witness_OpenStreamTakesTheLowestFree :
    (base.reaches (.openStream mp0 5 0 4) = true ∧ base.device = .run ∧
      (∀ d, d < base.geo.dies → (4 : DieMask).getLsbD d = false)) ∧
    (base.reaches (.openStream mp0 5 5 3) = true ∧ 4 < (5 : Byte).toNat) ∧
    (base.reaches (.openStream mp0 5 4 2) = true ∧ (1 < base.geo.dies ∧ (2 : DieMask).getLsbD 1 = true) ∧
      (base.function 5).state = .enabled ∧ (base.stream 0).state = .free) ∧
    (base.reaches (.openStream rp 0 0 1) = true ∧ base.openReclaim < 32 ∧ 32 ≤ ({ base with openReclaim := 32 }).openReclaim) ∧
    ((base.function 6).state = .disabled ∧ (fenced83.function 14).state = .fenced) := by decide +kernel

theorem witness_OpenStreamTakesTheLowestFree_full : allOpen.reaches (.openStream mp0 5 0 1) = true ∧ allOpen.device = .run ∧
    (allOpen.function 5).state = .enabled ∧ ∀ n, n < 1024 → (allOpen.stream n).state ≠ .free :=
  ⟨by decide, by decide, by decide, fun n h => by
    have : allOpen.stream n = Stream.opened .tenant 5 0 1 := read_range _ _ 1024 0 n (by omega) (by omega)
    rw [this]; decide⟩

theorem witness_BindMovesTheHint :
    (bound.reaches (.bind mp0 5 8 40) = true ∧ bound.reaches (.bind mp0 5 7 1024) = true ∧ bound.device = .run) ∧
    (bound.reaches (.bind mp0 6 0 40) = true ∧ (bound.function 6).state = .disabled) ∧
    (bound.reaches (.bind mp0 5 7 1023) = true ∧ (bound.stream 1023).state = .free) ∧
    (bound.reaches (.bind mp0 5 7 40) = true ∧ (bound.function 5).state ≠ .disabled ∧ (bound.stream 40).cls = .tenant ∧
      (bound.stream 40).owner = 5 ∧ (bound.stream 40).state = .idle ∧ bound.binding 5 7 = none) ∧
    (bound.reaches (.bind mp0 5 0 40) = true ∧ bound.binding 5 0 = some 40) ∧
    ((bound.setStream 41 (Stream.opened .tenant 5 0 3)).reaches (.bind mp0 5 0 41) = true ∧
      (bound.setStream 41 (Stream.opened .tenant 5 0 3)).binding 5 0 = some 40) := by decide +kernel

theorem witness_UnbindEmptiesTheEntry : bound.reaches (.unbind mp0 5 8) = true ∧ bound.reaches (.unbind mp0 5 7) = true ∧
    bound.reaches (.unbind mp0 5 0) = true ∧ bound.working = true ∧ bound.binding 5 7 = none ∧
    bound.binding 5 0 = some 40 := by decide +kernel

theorem witness_SetStreamModeSetsIntake : bound.reaches (.setStreamMode mp0 1024 0) = true ∧
    bound.reaches (.setStreamMode mp0 40 2) = true ∧ bound.reaches (.setStreamMode mp0 40 1) = true ∧ bound.working = true ∧
    bound.reaches (.setStreamMode mp0 1023 1) = true ∧ (bound.stream 1023).state = .free ∧
    (bound.stream 40).state ≠ .free := by decide +kernel

theorem witness_CloseStreamRefusals : bound.reaches (.closeStream mp0 1024) = true ∧ bound.working = true ∧
    bound.reaches (.closeStream mp0 1023) = true ∧ (bound.stream 1023).state = .free ∧
    bound.reaches (.closeStream rp 40) = true ∧ (bound.stream 40).cls ≠ .reclaim ∧
    ((stream40 (fun st => { st with state := .halted }) bound).stream 40).state = .halted ∧
    ((stream40 (fun st => { st with state := .draining }) bound).stream 40).state = .draining := by decide +kernel

/-- Stream 40 with a batch in flight and no uncut sector. -/
def busy : State := stream40 (fun st => { st with state := .active, inFlight := 1, writePoint := some ⟨0, 3⟩ }) bound

theorem witness_CloseStreamStartsToDrain : busy.reaches (.closeStream mp0 40) = true ∧ busy.working = true ∧
    (busy.stream 40).cls = .tenant ∧ (busy.stream 40).state = .active ∧ busy.uncut 40 = 0 ∧ (busy.stream 40).inFlight ≠ 0 := by
  decide +kernel

/-- A port has room for as many events as its queue is short of its capacity. -/
theorem room_of {s : State} {k : Nat} (h : [Port.fp, .mp0, .mp1, .rp].all
    (fun p => (s.port p).events.length + k ≤ eventCapacity p) = true) : s.roomFor k := by
  intro p
  simp only [List.all_cons, List.all_nil, Bool.and_true, Bool.and_eq_true, decide_eq_true_eq] at h
  cases p
  · exact h.1
  · exact h.2.1
  · exact h.2.2.1
  · exact h.2.2.2

theorem witness_CloseStreamCompletesAtOnce : bound.reaches (.closeStream mp0 40) = true ∧ bound.working = true ∧
    (bound.stream 40).cls = .tenant ∧ (bound.stream 40).state = .idle ∧ (bound.stream 40).writePoint = none ∧
    (bound.stream 40).chain = [] ∧ (bound.stream 40).inFlight = 0 ∧ bound.reportsOf 40 = false ∧ bound.roomFor 1 :=
  ⟨by decide, by decide, by decide, by decide, by decide, by decide, by decide, by decide, room_of (by decide)⟩

/-- Stream 40 HALTED. -/
def halted : State := stream40 (fun st => { st with state := .halted, failures := 3 }) bound

theorem witness_ResumeStreamLeavesHalt : bound.reaches (.resumeStream mp0 1024) = true ∧
    bound.reaches (.resumeStream mp0 40) = true ∧ bound.working = true ∧ (bound.stream 40).state ≠ .halted ∧
    halted.reaches (.resumeStream mp0 40) = true ∧ (halted.stream 40).state = .halted ∧ halted.uncut 40 = 0 := by
  decide +kernel

/-- A chained record of n sectors of stream 40. -/
def record40 (n placed durable : Nat) : Fragment :=
  { Fragment.powerOn with condition := .chained, stream := 40, origin := .tenant 5 0, sectors := n, placed := placed
                          durable := durable, admitted := 990 }

/-- Stream 40 HALTED with a whole unit uncut. -/
def haltedFull : State := (stream40 (fun st => { st with chain := [0] }) halted).setRecord 0 (record40 4 0 0)

/-- A mask names no die that is eligible, when no die of the device is. -/
theorem none_eligible {s : State} (mask : DieMask) (h : ∀ d, d < s.geo.dies → s.eligible mask d = false) (d : Nat) :
    s.eligible mask d = false := by
  by_cases hd : d < s.geo.dies
  · exact h d hd
  · simp [State.eligible, hd]

theorem witness_ResumeStreamWaitsForSupply : haltedFull.reaches (.resumeStream mp0 40) = true ∧ haltedFull.working = true ∧
    (haltedFull.stream 40).state = .halted ∧ haltedFull.geo.sectors ≤ haltedFull.uncut 40 ∧ 1 ≤ haltedFull.uncut 40 ∧
    (haltedFull.stream 40).inFlight < (haltedFull.stream 40).depth ∧ (haltedFull.stream 40).writePoint = none ∧
    (haltedFull.stream 40).finishing = none ∧ haltedFull.supplyWait 40 = false ∧
    ∀ d, haltedFull.eligible (haltedFull.stream 40).mask d = false :=
  ⟨by decide, by decide, by decide, by decide, by decide, by decide, by decide, by decide, by decide,
    none_eligible _ (by decide)⟩

/-- Stream 3 HALTED with two chained records, the first partly durable. -/
def haltedReclaim : State :=
  let record (n d : Nat) : Fragment :=
    { Fragment.powerOn with condition := .chained, stream := 3, origin := .reclaim, tag := BitVec.ofNat 32 (100 + n)
                            sectors := n, placed := d, durable := d }
  let s := relocating.setStream 3 { relocating.stream 3 with state := .halted, failures := 3, chain := [0, 1] }
  let s := (s.setRecord 0 (record 8 4)).setRecord 1 (record 5 0)
  { s with reclaimInUse := 2, budget := { s.budget with reclaimHeld := 9 } }

theorem witness_DiscardStreamGivesUpTheChain : haltedReclaim.reaches (.discardStream mp0 3) = true ∧
    haltedReclaim.device = .run ∧ (haltedReclaim.stream 3).state = .halted ∧ (haltedReclaim.stream 3).cls = .reclaim ∧
    (haltedReclaim.stream 3).chain.Nodup ∧
    (∀ r ∈ (haltedReclaim.stream 3).chain, (haltedReclaim.record r).origin = .reclaim ∧ (haltedReclaim.record r).stream = 3 ∧
      (haltedReclaim.record r).durable = (haltedReclaim.record r).placed) ∧
    haltedReclaim.budget.reclaimWait = .none ∧ haltedReclaim.reports = [] ∧
    (haltedReclaim.port .rp).events.length + (haltedReclaim.stream 3).chain.length ≤ 256 := by decide +kernel

/-! ### Hypotheses of the statements: functions and writes -/

/-- Function 5 waits for budget that raising its cap makes room for; function 6 for more. -/
def waiting5 : State :=
  { base with functions := [(5, { enabled with cap := 10, held := 4, wait := .budget 8 }),
      (6, { enabled with cap := 1, wait := .budget 2 })], budget := { base.budget with total := 4 } }

theorem witness_SetFunctionStoresTheSettings :
    (base.reaches (.setFunction mp0 5 1 16385 0 0) = true ∧ base.reaches (.setFunction mp0 5 1 0 16385 0) = true ∧
      base.reaches (.setFunction mp0 5 1 0 0 2001) = true ∧ base.reaches (.setFunction mp0 5 2 0 0 0) = true ∧
      base.limits.holdUp = 16384 ∧ base.device = .run) ∧
    (base.reaches (.setFunction mp0 5 0 16384 16384 2000) = true ∧ 1 ≤ (base.function 5).openStreams) ∧
    (base.reaches (.setFunction mp0 6 1 16384 0 0) = true ∧
      base.limits.holdUp < ((base.setFunction 5 { enabled with reserve := 1 }).reserves (some 6)) + 16384) ∧
    (base.reaches (.setFunction mp0 6 1 16384 16384 2000) = true ∧ base.reserves (some 6) + 16384 ≤ base.limits.holdUp) := by
  decide +kernel

/-- A property of every function, from the listed ones. -/
theorem functions_all {s : State} {P : Machine.Function → Prop} (hd : P .powerOn) (h : ∀ c ∈ s.functions, P c.2) (g : Nat) :
    P (s.function g) := read_all hd h g

theorem base_waits (g : Nat) : (base.function g).wait = .none :=
  functions_all (s := base) (P := fun fr => fr.wait = .none) (by decide) (by decide) g

theorem witness_SetFunctionStoresTheSettings_noWait : ∀ g n, (base.function g).wait ≠ .budget n := fun g n => by
  rw [base_waits]; exact nofun

theorem witness_SetFunctionOpensTheWaits : waiting5.reaches (.setFunction mp0 5 1 0 12 20) = true ∧
    waiting5.device = .run ∧ Table.canonical .powerOn waiting5.functions = true ∧
    waiting5.reserves (some 5) + 0 ≤ waiting5.limits.holdUp ∧ (waiting5.port .fp).events.length + 2 ≤ 1024 := by
  decide +kernel

/-- Function 14 of section 8.3 with its records reported. -/
def quiet14 : State := running ⟨16, 1024, 768, 24⟩ 1000 [] [(14, { enabled with openStreams := 2, violations := 2 })]

/-- A property of every stream, from the listed ones. -/
theorem streams_all {s : State} {P : Stream → Prop} (hd : P .powerOn) (h : ∀ c ∈ s.streams, P c.2) (n : Nat) :
    P (s.stream n) := read_all hd h n

theorem witness_FenceFunctionInDrainMode :
    (quiet14.reaches (.fenceFunction mp0 256 1) = true ∧ quiet14.reaches (.fenceFunction mp0 14 2) = true ∧
      quiet14.device = .run ∧ quiet14.reaches (.fenceFunction mp0 255 1) = true ∧
      (quiet14.function 255).state ≠ .enabled ∧ quiet14.reaches (.fenceFunction mp0 14 1) = true ∧
      (quiet14.function 14).state = .enabled ∧ (quiet14.function 14).outstanding = 0) ∧
    quiet14.roomFor 1 ∧
    (((bound.setFunction 5 { enabled with outstanding := 1 }).reaches (.fenceFunction mp0 5 1) = true ∧
      ((bound.setFunction 5 { enabled with outstanding := 1 }).function 5).outstanding ≠ 0)) :=
  ⟨by decide +kernel, room_of (by decide), by decide +kernel⟩

theorem witness_FenceFunctionInDrainMode_noUncut : ∀ n, (bound.stream n).state ≠ .free → (bound.stream n).cls = .tenant →
    (bound.stream n).owner = 5 → bound.uncut n = 0 :=
  streams_all (s := bound) (P := fun st => st.state ≠ .free → st.cls = .tenant → st.owner = 5 →
    (st.chain.map fun r => (bound.record r).uncut).sum = 0) (by decide) (by decide)

/-- Function 5 with one HALTED stream and one record, which was never cut. -/
def uncut5 : State :=
  { (haltedFull.setFunction 5 { enabled with openStreams := 1, held := 4, outstanding := 1, violations := 7 }) with
    tenantInUse := 1, budget := { haltedFull.budget with total := 4 } }

theorem witness_FenceFunctionInDiscardMode : (uncut5.reaches (.fenceFunction mp0 5 0) = true ∧ uncut5.device = .run ∧
    Table.canonical .powerOn uncut5.streams = true ∧ (uncut5.function 5).state = .enabled ∧
    (uncut5.function 5).outstanding = 1 ∧ (uncut5.function 5).flush = .none ∧ (uncut5.stream 40).state = .halted ∧
    (uncut5.stream 40).chain = [0] ∧ 1 ≤ (uncut5.record 0).sectors ∧ (uncut5.record 0).origin = .tenant 5 0 ∧
    (uncut5.record 0).stream = 40 ∧ (uncut5.record 0).mark = none ∧ (uncut5.record 0).placed = 0 ∧
    (uncut5.record 0).durable = 0 ∧ uncut5.supplyWait 40 = false ∧ uncut5.reports = []) ∧ uncut5.roomFor 2 :=
  ⟨by decide +kernel, room_of (by decide)⟩

theorem witness_FenceFunctionInDiscardMode_only : (∀ j, (uncut5.stream j).state ≠ .free ∧ (uncut5.stream j).cls = .tenant ∧
    (uncut5.stream j).owner = 5 ↔ j = 40) ∧ ∀ g, (uncut5.function g).wait = .none := by
  refine ⟨fun j => ⟨fun h => ?_, fun h => by subst h; decide⟩, fun g =>
    functions_all (s := uncut5) (P := fun fr => fr.wait = .none) (by decide) (by decide) g⟩
  by_contra hj
  refine h.1 ?_
  show (Table.read Stream.powerOn [(40, _)] j).state = .free
  simp only [Table.read]
  split
  · rfl
  · simp [Stream.powerOn, Stream.freeOf]

theorem witness_UnfenceFunctionEnables : (inState .config base).reaches (.unfenceFunction mp0 5) = true ∧
    (inState .drain base).reaches (.unfenceFunction mp0 5) = true ∧ base.reaches (.unfenceFunction mp0 256) = true ∧
    base.reaches (.unfenceFunction mp0 255) = true ∧ (base.function 255).state ≠ .fenced ∧
    fenced83.reaches (.unfenceFunction mp0 14) = true ∧ (fenced83.function 14).fence ≠ none ∧
    (base.setFunction 5 { enabled with state := .fenced }).reaches (.unfenceFunction mp0 5) = true ∧
    ((base.setFunction 5 { enabled with state := .fenced }).function 5).fence = none := by decide +kernel

theorem witness_SubmitRefusals :
    ((inState .config base).reaches (.submit fp 5 0 0 0 0 0 0 1) = true ∧
      (inState .drained base).reaches (.submit fp 5 0 0 0 0 0 0 1) = true) ∧
    (base.reaches (.submit fp 5 0 0 0 0 0 0 65) = true ∧ base.reaches (.submit fp 5 0 0 0 0 0 1 1) = true ∧
      2 ^ 40 < (255 : Byte).toNat * 2 ^ 32 + (0xFFFFF000 : Word).toNat + 2 * 4096 ∧
      2 ^ 48 < (0xFFFFFFFFFFFF : Lba).toNat + 2 ∧ base.reaches (.submit fp 5 8 0 0 0 0 0 1) = true ∧
      base.reaches (.submit rp 0 0 1024 0 0 0 0 1) = true) ∧
    (submitOutOfRange .fp 7 0 0xFFFFFFFFFFFF 255 0xFFFFF000 1 = false ∧ (base.function 6).state = .disabled ∧
      (fenced83.function 14).state = .fenced ∧ base.binding 5 7 = none) ∧
    (submitOutOfRange .rp 0 1023 0 0 0 64 = false ∧ (base.stream 1023).state = .free ∧
      (bound.stream 40).cls = .tenant) := by decide +kernel

/-- Stream 40 in each state that refuses a write, and function 5 at its cap or without a record. -/
theorem witness_SubmitHoldsATenantWrite :
    (bound.reaches (.submit fp 5 0 0 0 0 0 0 64) = true ∧ bound.device = .run ∧
      submitOutOfRange .fp 0 0 0 0 0 64 = false ∧ (bound.function 5).state = .enabled ∧ bound.binding 5 0 = some 40) ∧
    ((halted.stream 40).state = .halted ∧
      ((stream40 (fun st => { st with state := .draining }) bound).stream 40).state = .draining ∧
      ((stream40 (fun st => { st with intake := .hold }) bound).stream 40).intake = .hold) ∧
    ((bound.stream 40).state = .idle ∧ (bound.stream 40).intake = .accept ∧
      4096 - bound.limits.reclaimRecords ≤ ({ bound with tenantInUse := 3072 }).tenantInUse) ∧
    (bound.tenantInUse < 4096 - bound.limits.reclaimRecords ∧ (bound.record 0).condition = .free ∧
      ((100 : Int) - 37 < (64 : Byte).toNat) ∧ ((bound.setFunction 5 { enabled with held := 37 }).function 5).cap = 100) := by
  decide +kernel

theorem witness_SubmitAdmitsATenantWrite : bound.reaches (.submit fp 5 0 0 7 9 1 4096 3) = true ∧ bound.device = .run ∧
    submitOutOfRange .fp 0 0 9 1 4096 3 = false ∧ (bound.function 5).state = .enabled ∧ (bound.function 5).flush = .none ∧
    (bound.function 5).timeout ≤ 2000 ∧ bound.binding 5 0 = some 40 ∧ (bound.stream 40).state = .idle ∧
    (bound.stream 40).intake = .accept ∧ (bound.stream 40).cls = .tenant ∧ (bound.stream 40).owner = 5 ∧
    bound.tenantInUse < 4096 - bound.limits.reclaimRecords ∧ (bound.record 0).condition = .free ∧
    0 ∉ (bound.stream 40).chain ∧ (bound.function 5).held + 3 ≤ (bound.function 5).cap ∧
    bound.budget.total + 3 + bound.budget.unused ≤ bound.limits.holdUp + ((bound.function 5).reserve - (bound.function 5).held) ∧
    bound.uncut 40 + 3 < bound.geo.sectors ∧ bound.uncut 40 = 0 ∧ bound.budget.total + 3 < bound.limits.highWater := by
  decide +kernel

theorem witness_SubmitOnTheReclaimPort :
    (relocating.reaches (.submit rp 0 0 3 7 9 1 4096 3) = true ∧ relocating.device = .run ∧
      submitOutOfRange .rp 0 3 9 1 4096 3 = false ∧ (relocating.stream 3).cls = .reclaim) ∧
    ((haltedReclaim.stream 3).state = .halted ∧ (relocating.stream 3).state = .idle ∧
      (relocating.stream 3).intake = .accept) ∧
    relocating.limits.reclaimRecords ≤ ({ relocating with reclaimInUse := 1024 }).reclaimInUse ∧
    (relocating.reclaimInUse < relocating.limits.reclaimRecords ∧ (relocating.record 0).condition = .free ∧
      0 ∉ (relocating.stream 3).chain ∧ relocating.limits.reclaimHeld < 4094 + 3 ∧
      relocating.budget.reclaimHeld + 3 ≤ relocating.limits.reclaimHeld ∧ relocating.limits.reclaimTimeout ≤ 2000 ∧
      relocating.uncut 3 + 3 < relocating.geo.sectors ∧ relocating.uncut 3 = 0) := by decide +kernel

theorem witness_PressureNamesTheOldest : Table.canonical .powerOn example210.streams = true ∧
    (example210.stream 40).cls = .tenant ∧ 1 ≤ example210.uncut 40 ∧ (example210.stream 40).sealing ≠ .pending := by
  decide +kernel

/-- Function 5 with a record placed and not yet durable: no sector is uncut. -/
def placed5 : State :=
  ((stream40 (fun st => { st with chain := [0] }) busy).setRecord 0 (record40 4 4 0)).setFunction 5
    { enabled with openStreams := 1, held := 4, outstanding := 1, serial := 1 }

theorem witness_FlushFunctionWaitsForOlderRecords :
    (base.reaches (.flushFunction fp 256 9) = true ∧ base.device = .run ∧ base.reaches (.flushFunction fp 255 9) = true ∧
      (base.function 255).state = .disabled ∧ example83.reaches (.flushFunction fp 14 9) = true ∧
      (example83.function 14).flush ≠ .none) ∧
    (placed5.reaches (.flushFunction fp 5 9) = true ∧ (placed5.function 5).flush = .none ∧
      Table.canonical .powerOn placed5.records = true ∧ (placed5.record 0).condition = .chained ∧
      (placed5.record 0).origin = .tenant 5 0 ∧ 1 ≤ ((placed5.function 5).serial - 0).toNat ∧
      ((placed5.function 5).serial - 0).toNat < 2 ^ 31) ∧
    (bound.reaches (.flushFunction fp 5 9) = true ∧ (bound.function 5).flush = .none ∧ bound.reports = [] ∧
      bound.records = []) ∧ bound.roomFor 1 :=
  ⟨by decide +kernel, by decide +kernel, by decide +kernel, room_of (by decide)⟩

theorem witness_FlushFunctionWaitsForOlderRecords_noUncut : ∀ n, (placed5.stream n).state ≠ .free →
    (placed5.stream n).cls = .tenant → (placed5.stream n).owner = 5 → placed5.uncut n = 0 :=
  streams_all (s := placed5) (P := fun st => st.state ≠ .free → st.cls = .tenant → st.owner = 5 →
    (st.chain.map fun r => (placed5.record r).uncut).sum = 0) (by decide) (by decide)

/-! ### Hypotheses of the statements: dispatch -/

theorem witness_SupplyTakesASegment :
    (base.reaches (.supply mp0 [⟨0, 15⟩]) = true ∧ base.device ≠ .drained ∧ base.control.locked = true ∧
      0 < base.geo.dies ∧ 15 < base.geo.blocks ∧ portCore .mp0 = some .core0 ∧ (base.die 0).assigned = some .core0 ∧
      (base.segment ⟨0, 15⟩).state = .untracked ∧ (base.die 0).freeQueue.length < 32 ∧ base.waitSupply = []) ∧
    (base.reaches (.supply mp0 [⟨0, 16⟩]) = true ∧ base.reaches (.supply mp0 [⟨2, 0⟩]) = true ∧
      base.reaches (.supply mp0 [⟨1, 0⟩]) = true ∧ (base.die 1).assigned ≠ some .core0) ∧
    ((base.setSegment ⟨0, 15⟩ { Segment.powerOn with state := .retired }).reaches (.supply mp0 [⟨0, 15⟩]) = true ∧
      ((base.setSegment ⟨0, 15⟩ { Segment.powerOn with state := .retired }).segment ⟨0, 15⟩).state ≠ .untracked) ∧
    32 ≤ ((base.setDie 0 { dieOf .core0 with freeQueue := List.replicate 32 1 }).die 0).freeQueue.length ∧
    (inState .config { base with control := { base.control with locked := false } }).control.locked = false := by
  decide +kernel

theorem witness_TakeBatchTakesTheHead : (base.reaches (.takeBatch mp0) = true ∧ base.working = true ∧
      base.queues.at (.core .core0) = []) ∧
    (example63.reaches (.takeBatch mp1) = true ∧ example63.working = true ∧ portCore .mp1 = some .core1 ∧
      example63.queues.at (.core .core1) = 2 :: [] ∧
      (example63.slot 2).batch = some (batch63 .queued 202 [extent63 1 34 6, extent63 2 0 18])) := by decide +kernel

theorem witness_RepeatTakeGivesTheSameBatch :
    (example63.reaches (.takeBatchRepeat mp1 512 2) = true ∧ example63.working = true ∧
      example63.reaches (.takeBatchRepeat mp1 1 2) = true ∧
      (example63.slot 1).batch = some (batch63 (.taken 30300) 201 [extent63 1 10 24]) ∧ (example63.slot 1).gen = 2 ∧
      (batch63 (.taken 30300) 201 [extent63 1 10 24]).place = .core .core1) ∧
    (example63.reaches (.takeBatchRepeat mp1 511 0) = true ∧ (example63.slot 511).batch = none) := by decide +kernel

theorem witness_ResultRefusals :
    ((inState .config base).reaches (.batchResultDone mp0 0 0) = true ∧
      (inState .drained base).reaches (.batchResultFailed mp0 0 0 1) = true) ∧
    (example63.reaches (.batchResultDone mp1 512 2) = true ∧ example63.reaches (.batchResultFailed mp1 1 2 2) = true ∧
      example63.working = true) ∧
    (example63.reaches (.batchResultDone mp1 511 0) = true ∧ (example63.slot 511).batch = none) ∧
    (example63.reaches (.batchResultFailed mp1 1 2 1) = true ∧
      (example63.slot 1).batch = some (batch63 (.taken 30300) 201 [extent63 1 10 24]) ∧
      (batch63 (.taken 30300) 201 [extent63 1 10 24]).unit ≠ (example63.segment ⟨9, 505⟩).doneUnits) := by decide +kernel

/-- A batch of stream 40 that core 0 has taken: n sectors of record 0, from its sector p. -/
def batch40 (p n : Nat) : Batch :=
  { phase := .taken 1100, place := .core .core0, stream := 40, cls := .tenant, seg := ⟨0, 3⟩, unit := 0, real := n
    pad := 4 - n, overdue := false
    extents := [{ record := 0, lba := BitVec.ofNat 48 p, region := 0, offset := 0, sectors := n, fn := some 5 }] }

/-- Stream 40 with one record of which `placed` sectors are placed, the last n of them in the batch of slot 9. -/
def flying (sectors placed n : Nat) : State :=
  let s := (busy.setRecord 0 (record40 sectors placed (placed - n))).setFunction 5
    { enabled with openStreams := 1, held := 10, outstanding := 1 }
  let s := stream40 (fun st => { st with chain := [0], sealing := .armed 1010 }) s
  let s := s.setSegment ⟨0, 3⟩ { Segment.powerOn with state := .opened, owner := some 40, cls := .tenant, nextUnit := 1 }
  let s := s.setDie 0 { dieOf .core0 with inFlight := 1, openPoints := 1 }
  { s.setSlot 9 ⟨6, some (batch40 (placed - n) n)⟩ with tenantInUse := 1, budget := { s.budget with total := 10 } }

theorem witness_DoneAdvancesTheSegment :
    let s := flying 9 8 4
    s.reaches (.batchResultDone mp0 9 6) = true ∧ s.device = .run ∧ portCore .mp0 = some .core0 ∧
    (s.slot 9).batch = some (batch40 4 4) ∧ (s.slot 9).gen = 6 ∧ (s.segment ⟨0, 3⟩).doneUnits = 0 ∧
    (s.segment ⟨0, 3⟩).state = .opened ∧ (s.stream 40).state = .active ∧ (s.stream 40).cls = .tenant ∧
    (s.stream 40).chain = 0 :: [] ∧ (s.record 0).durable + 4 < (s.record 0).mark.getD (s.record 0).sectors ∧
    (s.stream 40).owner = 5 ∧ (s.function 5).state = .enabled ∧ (s.die 0).slotWait = [] ∧
    (s.die 0).assigned = some .core0 ∧ s.uncut 40 < s.geo.sectors ∧ (s.stream 40).sealing ≠ .pending := by decide +kernel

theorem flying_waits (sectors placed n g : Nat) : ((flying sectors placed n).function g).wait = .none :=
  functions_all (s := flying sectors placed n) (P := fun fr => fr.wait = .none) (by decide)
    (show ∀ c ∈ [(5, { enabled with openStreams := 1, held := 10, outstanding := 1 })], c.2.wait = Wait.none by decide) g

theorem witness_DoneRetiresTheRecord :
    let s := flying 8 8 4
    (s.reaches (.batchResultDone mp0 9 6) = true ∧ s.device = .run ∧ (s.slot 9).batch = some (batch40 4 4) ∧
    (s.slot 9).gen = 6 ∧ (s.segment ⟨0, 3⟩).doneUnits = 0 ∧ (s.segment ⟨0, 3⟩).state = .opened ∧
    (s.stream 40).state = .active ∧ (s.stream 40).cls = .tenant ∧ (s.stream 40).owner = 5 ∧ (s.stream 40).chain = [0] ∧
    (s.record 0).origin = .tenant 5 0 ∧ (s.record 0).stream = 40 ∧ (s.record 0).mark = none ∧
    (s.record 0).placed = (s.record 0).sectors ∧ (s.record 0).durable + 4 = (s.record 0).sectors ∧
    (s.function 5).state = .enabled ∧ (s.function 5).fence = none ∧ (s.function 5).flush = .none ∧
    (s.die 0).slotWait = [] ∧ (s.die 0).assigned = some .core0 ∧ s.reports = []) ∧ s.roomFor 1 :=
  ⟨by decide +kernel, room_of (by decide)⟩

theorem witness_FailedHaltsTheStream :
    let s := stream40 (fun st => { st with failures := 2 }) (flying 9 8 4)
    (s.reaches (.batchResultFailed mp0 9 6 1) = true ∧ s.device = .run ∧ Table.canonical .powerOn s.slots = true ∧
    (s.slot 9).batch = some (batch40 4 4) ∧ (s.slot 9).gen = 6 ∧ (s.segment ⟨0, 3⟩).doneUnits = 0 ∧
    (s.segment ⟨0, 3⟩).state = .opened ∧ (s.segment ⟨0, 3⟩).owner = some 40 ∧ (s.stream 40).state = .active ∧
    (s.stream 40).cls = .tenant ∧ (s.stream 40).writePoint = some ⟨0, 3⟩ ∧ (s.stream 40).finishing = none ∧
    (s.stream 40).chain = [0] ∧ s.limits.failureLimit ≤ (s.stream 40).failures + 1 ∧ (s.die 0).slotWait = [] ∧
    (s.die 0).assigned = some .core0) ∧ s.roomFor 2 :=
  ⟨by decide +kernel, room_of (by decide)⟩

/-- A batch stands in slot 9 alone. -/
theorem flying_slots (sectors placed n m : Nat) (h : ((flying sectors placed n).slot m).batch ≠ none) : m = 9 := by
  by_contra hm
  refine h ?_
  show (Table.read Slot.powerOn [(9, _)] m).batch = none
  simp only [Table.read]
  split
  · rfl
  · simp [Slot.powerOn]

theorem witness_FailedHaltsTheStream_only (m : Nat) :
    (∃ x, ((stream40 (fun st => { st with failures := 2 }) (flying 9 8 4)).slot m).batch = some x ∧ x.stream = 40) → m = 9 :=
  fun ⟨_, hx, _⟩ => flying_slots 9 8 4 m fun h => by
    have : ((stream40 (fun st => { st with failures := 2 }) (flying 9 8 4)).slot m).batch = none := h
    rw [this] at hx
    cases hx

/-! ### Hypotheses of the statements: occupancy -/

/-- Segment (0, 3) with 10 valid sectors, in some state. -/
def segment3 (st : SegmentState) (valid : Nat) : State :=
  base.setSegment ⟨0, 3⟩ { Segment.powerOn with state := st, written := 12, valid := valid, closeSeq := 7, suspect := true }

theorem witness_InvalidateLowersTheValidCount :
    (base.reaches (.invalidate mp0 []) = true ∧ base.reaches (.invalidate mp0 (List.replicate 33 ⟨0, 0, 1⟩)) = true ∧
      base.reaches (.invalidate mp0 [⟨2, 0, 1⟩]) = true ∧ base.reaches (.invalidate mp0 [⟨0, 16, 1⟩]) = true ∧
      base.reaches (.invalidate mp0 [⟨0, 0, 0⟩]) = true ∧ base.working = true) ∧
    ((segment3 .victim 10).reaches (.invalidate mp0 [⟨0, 3, 10⟩]) = true ∧
      ((segment3 .victim 10).segment ⟨0, 3⟩).state = .victim ∧ (10 : Half).toNat ≤ ((segment3 .victim 10).segment ⟨0, 3⟩).valid) ∧
    ((segment3 .opened 10).reaches (.invalidate mp0 [⟨0, 3, 11⟩]) = true ∧
      ((segment3 .opened 10).segment ⟨0, 3⟩).valid < (11 : Half).toNat) ∧
    (base.reaches (.invalidate mp0 [⟨1, 15, 1⟩]) = true ∧ (base.segment ⟨1, 15⟩).state = .untracked ∧
      Table.canonical .powerOn base.segments = true) := by decide +kernel

/-- Both ends of the range of u and a. -/
theorem witness_ScoresFollowThePolicy : (0 : Nat) ≤ 65535 ∧ (65535 : Nat) ≤ 65535 ∧ score .aged 0 65535 = 65535 ∧
    score .greedy 65535 0 = 0 := by decide

theorem witness_NominateTakesTheFirstInRank : (example77.reaches (.nominate rp 0xFF 1 3 8) = true ∧ example77.device = .run ∧
      policyOf 1 = some .aged ∧ classFilterOf 3 = some none ∧ Table.canonical .powerOn example77.segments = true ∧
      1 ≤ example77.geo.blocks ∧ (example77.segment ⟨5, 12⟩).state = .closed) ∧
    (example77.reaches (.nominate rp 15 0 0 1) = true ∧ (15 : Byte).toNat < example77.geo.dies ∧ policyOf 0 = some .greedy ∧
      classFilterOf 0 = some (some .tenant)) := by decide +kernel

theorem witness_VictimsAreReturnedReleasedOrRetired :
    (base.working = true ∧ base.reaches (.returnSegment rp ⟨0, 16⟩) = true ∧ base.reaches (.releaseSegment rp ⟨2, 0⟩) = true ∧
      base.reaches (.retireSegment rp ⟨2, 0⟩) = true) ∧
    ((segment3 .victim 10).reaches (.returnSegment rp ⟨0, 3⟩) = true ∧ (segment3 .victim 10).working = true ∧
      ((segment3 .victim 10).segment ⟨0, 3⟩).state = .victim) ∧
    ((segment3 .closed 0).reaches (.returnSegment rp ⟨0, 3⟩) = true ∧
      (segment3 .closed 0).reaches (.releaseSegment rp ⟨0, 3⟩) = true ∧
      ((segment3 .closed 0).segment ⟨0, 3⟩).state ≠ .victim) ∧
    ((segment3 .victim 1).reaches (.releaseSegment rp ⟨0, 3⟩) = true ∧ 1 ≤ ((segment3 .victim 1).segment ⟨0, 3⟩).valid) ∧
    ((segment3 .victim 0).reaches (.releaseSegment rp ⟨0, 3⟩) = true ∧ ((segment3 .victim 0).segment ⟨0, 3⟩).valid = 0) ∧
    ((segment3 .filled 1).reaches (.retireSegment rp ⟨0, 3⟩) = true ∧
      ((segment3 .filled 1).segment ⟨0, 3⟩).state = .filled ∧ ((segment3 .closed 0).segment ⟨0, 3⟩).state = .closed ∧
      ((segment3 .retired 0).segment ⟨0, 3⟩).state = .retired) := by decide +kernel

theorem witness_VictimsAreReturnedReleasedOrRetired_room : (segment3 .victim 0).roomFor 1 := room_of (by decide)

/-! ### Hypotheses of the statements: configuration, power and queries -/

/-- A device in CONFIG, its geometry unlocked. -/
def config : State := { base with control := { base.control with device := .config, locked := false } }

/-- The same with its geometry locked. -/
def lockedConfig : State := inState .config base

theorem witness_GeometryIsSetLockedAndStarted :
    (base.reaches (.setGeometry mp0 2 16 16 4) = true ∧ base.reaches (.lockGeometry mp0) = true ∧
      base.reaches (.start mp0) = true ∧ base.device = .run ∧ (inState .drain base).reaches (.start mp0) = true ∧
      (inState .drained base).reaches (.lockGeometry mp0) = true) ∧
    (lockedConfig.reaches (.setGeometry mp0 2 16 16 4) = true ∧ lockedConfig.device = .config ∧
      lockedConfig.control.locked = true) ∧
    (config.reaches (.setGeometry mp0 0 16 16 4) = true ∧ config.reaches (.setGeometry mp0 64 1025 16 4) = true ∧
      65536 < 64 * 1025 ∧ config.control.locked = false) ∧
    (config.reaches (.setGeometry mp0 64 1024 1024 63) = true ∧ 64 * 1024 ≤ 65536 ∧ 1024 * 63 ≤ 65535 ∧
      config.reaches (.setGeometry mp0 1 16 16 4) = true) ∧
    (State.reset.reaches (.lockGeometry mp0) = true ∧ State.reset.control.geometry = none ∧
      config.reaches (.lockGeometry mp0) = true ∧ config.control.geometry ≠ none) ∧
    (config.reaches (.start mp0) = true ∧ lockedConfig.reaches (.start mp0) = true ∧
      lockedConfig.control.geometry = some ⟨2, 16, 16, 4⟩ ∧ ∀ d, d < 2 → (lockedConfig.die d).configured ≠ none) := by
  decide +kernel

/-- Each limit's range at both ends, and one beyond it. -/
theorem witness_SetLimitsStoresOneLimit :
    (base.reaches (.setLimits mp0 10 0) = true ∧ base.device = .run ∧ config.device = .config) ∧
    ([(0, 256), (0, 65535), (1, 0), (1, 65535), (2, 0), (2, 2048), (3, 1), (3, 8), (4, 0), (4, 2000)].all
      fun c => config.reaches (.setLimits mp0 (BitVec.ofNat 8 c.1) (BitVec.ofNat 16 c.2))) = true ∧
    ([(5, 0), (5, 65535), (6, 10), (6, 2000), (7, 0), (7, 1), (8, 1), (8, 7), (9, 0), (9, 31)].all
      fun c => base.reaches (.setLimits mp0 (BitVec.ofNat 8 c.1) (BitVec.ofNat 16 c.2))) = true ∧
    (config.reaches (.setLimits mp0 0 255) = true ∧ config.reaches (.setLimits mp0 3 9) = true ∧
      base.reaches (.setLimits mp0 9 32) = true ∧ base.reaches (.setLimits mp0 0 256) = true) ∧
    (256 < (config.setFunction 5 { enabled with reserve := 300 }).reserves none ∧ config.reserves none ≤ 256) := by
  decide +kernel

theorem witness_DiesAndSegmentsAreLoaded :
    (config.device = .config ∧ config.control.geometry = some ⟨2, 16, 16, 4⟩ ∧
      config.reaches (.setDieMap mp0 ([0, 0] ++ List.replicate 62 0xFF)) = true ∧
      config.reaches (.setDieMap mp0 ([0, 0, 1] ++ List.replicate 61 0xFF)) = true ∧
      config.reaches (.setDieMap mp0 ([0, 2] ++ List.replicate 62 0xFF)) = true) ∧
    (config.reaches (.loadSegment mp0 [⟨0, 1, 15, 64, 9, 2, 7⟩]) = true ∧ config.control.locked = false ∧
      lockedConfig.reaches (.loadSegment mp0 [⟨0, 1, 15, 64, 9, 2, 7⟩]) = true ∧ lockedConfig.control.locked = true ∧
      lockedConfig.reaches (.loadSegment mp0 [⟨2, 1, 15, 64, 9, 2, 7⟩]) = true ∧
      lockedConfig.reaches (.loadSegment mp0 [⟨0, 1, 16, 64, 9, 2, 7⟩]) = true ∧
      lockedConfig.reaches (.loadSegment mp0 [⟨0, 1, 15, 65, 9, 2, 7⟩]) = true ∧ 16 * 4 < (65 : Half).toNat ∧
      lockedConfig.reaches (.loadSegment mp0 [⟨0, 1, 15, 64, 9, 3, 7⟩]) = true ∧
      (lockedConfig.segment ⟨1, 15⟩).state = .untracked) ∧
    (lockedConfig.reaches (.loadSegment mp0 [⟨1, 1, 15, 0, 0, 0, 0⟩]) = true ∧
      (inState .config (segment3 .closed 0)).reaches (.loadSegment mp0 [⟨0, 0, 3, 0, 0, 0, 0⟩]) = true ∧
      ((inState .config (segment3 .closed 0)).segment ⟨0, 3⟩).state = .closed ∧
      ((inState .config (segment3 .retired 0)).segment ⟨0, 3⟩).state = .retired) := by decide +kernel

theorem witness_RestartKeepsTheSettings : (inState .drain base).reaches (.restart mp0) = true ∧
    (inState .drained base).reaches (.restart mp0) = true ∧ example63.reaches (.restart mp0) = true ∧
    example63.device = .run ∧ example63.canonical = true ∧ config.reaches (.restart mp0) = true ∧ config.canonical = true := by
  decide +kernel

theorem witness_ResetAndPowerFail : (base.control.powerFail = false ∧ (base.setPowerFail true).control.powerFail = true ∧
    (inState .drain base).device = .drain ∧ (inState .drained base).control.powerFail = false ∧ config.device = .config ∧
    (placed5.record 0).condition = .chained ∧ (placed5.stream (placed5.record 0).stream).state ≠ .halted ∧
    placed5.device = .run ∧ Table.canonical .powerOn placed5.records = true ∧ base.records = []) ∧ config.roomFor 1 ∧
    base.roomFor 1 ∧ (∀ n, (placed5.stream n).state ≠ .free → placed5.uncut n = 0) :=
  ⟨by decide +kernel, room_of (by decide), room_of (by decide),
    streams_all (s := placed5) (P := fun st => st.state ≠ .free →
      (st.chain.map fun r => (placed5.record r).uncut).sum = 0) (by decide) (by decide)⟩

theorem witness_QueriesReportAndChangeNothing : (base.reaches (.queryStream fp 1024) = true ∧
      base.reaches (.queryStream fp 1023) = true ∧ base.reaches (.queryFunction fp 0xFFFF) = true ∧
      base.reaches (.queryFunction fp 256) = true ∧ base.reaches (.queryFunction fp 255) = true) ∧
    (State.reset.reaches (.querySegment rp ⟨0, 0⟩) = true ∧ State.reset.reaches (.queryDie rp 0) = true ∧
      State.reset.control.geometry = none ∧ base.reaches (.querySegment rp ⟨0, 16⟩) = true ∧
      base.reaches (.querySegment rp ⟨1, 15⟩) = true ∧ base.reaches (.queryDie rp 2) = true ∧
      base.reaches (.queryDie rp 1) = true ∧ base.control.geometry ≠ none) ∧
    (base.reaches (.queryDevice fp) = true ∧ (oneCore base).reaches (.queryDevice mp0) = true) := by decide +kernel

/-! ### Hypotheses of the statements: expiries, completions and arbiters -/

/-- Stream 40 with 3 sectors uncut, an armed seal and a write point. -/
def sealed (sealing : Seal) : State :=
  let s := (busy.setRecord 0 (record40 7 4 0)).setSegment ⟨0, 3⟩
    { Segment.powerOn with state := .opened, owner := some 40, cls := .tenant, nextUnit := 14 }
  let s := stream40 (fun st => { st with chain := [0], sealing := sealing }) s
  s.setDie 0 { dieOf .core0 with inFlight := 3, openPoints := 1 }

theorem witness_SealExpiryCutsTheRemainder :
    ((sealed (.armed 1001)).stream 40).sealing = .armed 1001 ∧ 2 ^ 31 ≤ ((sealed (.armed 1001)).tick - 1001).toNat ∧
    (let s := sealed (.armed 1000)
     (s.stream 40).sealing = .armed 1000 ∧ (s.tick - 1000).toNat < 2 ^ 31 ∧ (s.stream 40).state = .active ∧
      (s.stream 40).chain.Nodup ∧ 1 ≤ s.uncut 40 ∧ s.uncut 40 < s.geo.sectors ∧
      (s.stream 40).inFlight < (s.stream 40).depth ∧ (s.stream 40).writePoint = some ⟨0, 3⟩ ∧
      (s.die 0).inFlight < s.limits.dieInFlight ∧ (s.segment ⟨0, 3⟩).state = .opened ∧
      (s.segment ⟨0, 3⟩).nextUnit + 1 < s.geo.units ∧ (s.slot 0).batch = none) := by decide +kernel

/-- The batch of slot 9 overdue at tick 1,100, with one more batch waiting in the queue of core 0. -/
def overdue (mode : OverdueMode) : State :=
  let s := flying 7 7 3
  let s := s.setFunction 5 { enabled with timeout := 0, held := 10 }
  let s := s.setSlot 11 ⟨0, some { batch40 0 1 with stream := 41, phase := .queued, seg := ⟨1, 3⟩ }⟩
  { s.setControl { s.control with tick := 1100, limits := { s.limits with overdue := mode } } with
    queues := { core0 := [11], core1 := [], parked := [] } }

theorem witness_DeadlineExpiryReportsOrTakesOver :
    ((flying 8 8 4).slot 9).batch = some (batch40 4 4) ∧ 2 ^ 31 ≤ ((flying 8 8 4).tick - 1100).toNat ∧
    ((overdue .report).slot 9).batch = some (batch40 4 3) ∧ ((overdue .report).tick - 1100).toNat < 2 ^ 31 ∧
    (batch40 4 3).overdue = false ∧ (overdue .report).limits.overdue = .report ∧
    (let s := overdue .takeover
     s.limits.overdue = .takeover ∧ s.core .core1 = .active ∧ s.canonical = true ∧
      (∀ m ∈ s.queues.core0, (s.slot m).batch.isSome = true) ∧ 9 ∉ s.queues.core0 ∧ 9 ∉ s.queues.core1 ∧
      9 ∉ s.queues.parked ∧ (s.stream 40).state = .active ∧ (s.stream 40).cls = .tenant ∧
      (s.stream 40).writePoint = some ⟨0, 3⟩ ∧ (s.stream 40).finishing = none ∧ (s.segment ⟨0, 3⟩).state = .opened ∧
      (s.segment ⟨0, 3⟩).owner = some 40 ∧ (s.die 0).assigned = some .core0 ∧ (s.die 0).slotWait = [] ∧
      (s.stream 40).chain = [0] ∧ (s.record 0).mark.getD (s.record 0).sectors < s.geo.sectors + 4 ∧ s.device = .run ∧
      (s.function 5).state = .enabled ∧ (s.function 5).flush = .none ∧ (s.function 5).timeout = 0) := by decide +kernel

theorem witness_DeadlineExpiryReportsOrTakesOver_only : (overdue .takeover).roomFor 2 ∧ (overdue .report).roomFor 1 ∧
    ∀ m x, ((overdue .takeover).slot m).batch = some x →
      x.stream = 40 ∨ (x.place = .core .core0 ∧ x.phase ≠ .queued) → m = 9 := by
  refine ⟨room_of (by decide), room_of (by decide), fun m x h hx => ?_⟩
  by_contra hm
  have : ((overdue .takeover).slot m).batch = none ∨
      ((overdue .takeover).slot m).batch = some { batch40 0 1 with stream := 41, phase := .queued, seg := ⟨1, 3⟩ } := by
    show (Table.read Slot.powerOn [(9, _), (11, _)] m).batch = none ∨ (Table.read Slot.powerOn [(9, _), (11, _)] m).batch = _
    simp only [Table.read, if_neg hm]
    repeat' split
    all_goals first | exact .inl rfl | exact .inr rfl
  rcases this with h' | h' <;> rw [h'] at h
  · cases h
  · cases h
    revert hx
    decide

/-- A RECLAIM record that waits to be reported, behind a flush of function 5 that waits for FP. -/
def reporting : State :=
  let s := relocating.setRecord 0 { Fragment.powerOn with
    condition := .pendingReport .durable, stream := 3, origin := .reclaim, tag := 77, sectors := 1, placed := 1, durable := 1 }
  { s.setFunction 5 { enabled with flush := .complete 4 99 } with
    reclaimInUse := 1, reports := [.flush 5, .fragment 0] }

theorem witness_CompletionsAreReportedInOrder : (base.oldestReport (base.reportPort (.fragment 0)) ≠ some (.fragment 0) ∧
      base.oldestReport .fp ≠ some (.flush 5)) ∧
    ((reporting.record 0).condition = .pendingReport .durable ∧ (reporting.record 0).origin = .reclaim ∧
      reporting.oldestReport .rp = some (.fragment 0) ∧ reporting.budget.reclaimWait = .none ∧
      (reporting.stream 3).state ≠ .draining) ∧
    ((reporting.function 5).flush = .complete 4 99 ∧ reporting.oldestReport .fp = some (.flush 5)) ∧ reporting.roomFor 1 :=
  ⟨by decide, by decide, by decide, room_of (by decide)⟩

/-- Stream 3 DRAINING with nothing left, and a fence of function 5 with nothing outstanding. -/
def finishing : State :=
  let s := relocating.setStream 3 { relocating.stream 3 with state := .draining, requester := some .rp }
  s.setFunction 5 { enabled with state := .fenced, fence := some (.drain, .mp1), violations := 2 }

theorem witness_ClosesFencesAndTheDrainComplete :
    ((base.stream 40).state ≠ .draining ∧ (base.function 5).fence = none ∧ base.device ≠ .drain) ∧
    ((finishing.stream 3).state = .draining ∧ (finishing.stream 3).chain = [] ∧ (finishing.stream 3).inFlight = 0 ∧
      finishing.reportsOf 3 = false ∧ (finishing.stream 3).writePoint = none ∧ (finishing.stream 3).cls = .reclaim ∧
      (finishing.stream 3).requester = some .rp) ∧
    ((finishing.function 5).fence = some (.drain, .mp1) ∧ (finishing.function 5).outstanding = 0) ∧
    ((inState .drain placed5).device = .drain ∧ Table.canonical .powerOn (inState .drain placed5).records = true ∧
      ((inState .drain placed5).record 0).condition = .chained ∧
      ((inState .drain placed5).stream ((inState .drain placed5).record 0).stream).state ≠ .halted ∧
      (inState .drain base).records = []) ∧ finishing.roomFor 1 ∧ (inState .drain base).roomFor 1 :=
  ⟨by decide, by decide, by decide, by decide, room_of (by decide), room_of (by decide)⟩

/-- Stream 40 waits for a slot of die 0. -/
def slotless : State := (sealed .pending).setDie 0 { dieOf .core0 with inFlight := 3, openPoints := 1, slotWait := [40] }

/-- Stream 40 waits for supply, and die 1, at its in-flight limit, has a free segment. -/
def unsupplied : State :=
  let s := (bound.setRecord 0 (record40 4 0 0)).setDie 1 { dieOf .core1 with freeQueue := [9], inFlight := 4, supplyLow := true }
  { stream40 (fun st => { st with state := .waitSupply, chain := [0] }) s with waitSupply := [40] }

theorem witness_ArbitersServeTheHead :
    ((base.die 0).slotWait = [] ∧
      (slotless.setDie 0 { slotless.die 0 with inFlight := 4 }).limits.dieInFlight ≤ 4) ∧
    ((slotless.die 0).slotWait = [40] ∧ (slotless.die 0).inFlight < slotless.limits.dieInFlight ∧
      (slotless.stream 40).sealing = .pending ∧ (slotless.stream 40).state = .active ∧ (slotless.stream 40).chain.Nodup ∧
      1 ≤ slotless.uncut 40 ∧ slotless.uncut 40 < slotless.geo.sectors ∧
      (slotless.stream 40).inFlight < (slotless.stream 40).depth ∧ (slotless.stream 40).writePoint = some ⟨0, 3⟩ ∧
      (slotless.segment ⟨0, 3⟩).state = .opened ∧ (slotless.segment ⟨0, 3⟩).nextUnit + 1 < slotless.geo.units ∧
      (slotless.slot 0).batch = none) ∧
    ((base.die 5).assigned = none ∧ (base.die 0).freeQueue = [] ∧ base.waitSupply = []) ∧
    (unsupplied.waitSupply = [40] ∧ (unsupplied.die 1).freeQueue = 9 :: [] ∧ (unsupplied.die 1).supplyLow = true ∧
      unsupplied.limits.dieInFlight ≤ (unsupplied.die 1).inFlight ∧ (unsupplied.die 1).slotWait = [] ∧
      (unsupplied.stream 40).state = .waitSupply ∧ unsupplied.geo.sectors ≤ unsupplied.uncut 40 ∧ 1 ≤ unsupplied.uncut 40 ∧
      (unsupplied.stream 40).inFlight < (unsupplied.stream 40).depth ∧
      ∀ x, x < unsupplied.geo.dies → (unsupplied.eligible (unsupplied.stream 40).mask x = true ↔ x = 1)) := by decide +kernel

/-! ### Hypotheses of the clauses on frames, device states, reports and seals -/

/-- A payload of three bytes where four are due; SUPPLY with a count of 2 and one entry; TAKE BATCH with one byte. -/
theorem witness_InvalidFramesAreRefused_length :
    (let f : List Byte := [1, 2, 3]; f.length = (join16 3 0).toNat ∧ (join16 3 0).toNat ∉ payloadLengths 4 (f.getD 0 0).toNat) ∧
    (let f : List Byte := [2, 0, 5, 0]; f.length = (join16 4 0).toNat ∧ (join16 4 0).toNat ∉ payloadLengths 0x0D (f.getD 0 0).toNat) ∧
    (let f : List Byte := [9]; f.length = (join16 1 0).toNat ∧ (join16 1 0).toNat ∉ payloadLengths 0x0E (f.getD 0 0).toNat) := by
  decide +kernel

theorem witness_UnpermittedRequestsChangeNothing_device :
    (Instr.flushFunction fp 5 0).kind.toNat = 0x02 ∧ (Instr.bind mp0 5 7 1023).kind.toNat ∈ [0x03, 0x04] ∧
    (Instr.closeStream mp0 40).kind.toNat ∈ [0x05, 0x06, 0x07] ∧ (Instr.setFunction mp0 5 1 0 0 0).kind.toNat = 0x0A ∧
    (Instr.supply mp0 [⟨0, 15⟩]).kind.toNat = 0x0D ∧ (Instr.setGeometry mp0 2 16 16 4).kind.toNat = 0x15 ∧
    (Instr.loadSegment mp0 []).kind.toNat = 0x19 ∧
    (inState .config base).reaches (.flushFunction fp 5 0) = true ∧ (inState .drained base).reaches (.closeStream mp0 40) = true ∧
    (inState .drain base).reaches (.setFunction mp0 5 1 0 0 0) = true ∧ (inState .drained base).reaches (.supply mp0 [⟨0, 15⟩]) = true ∧
    base.reaches (.setGeometry mp0 2 16 16 4) = true ∧ (inState .drain base).reaches (.loadSegment mp0 []) = true := by
  decide +kernel

/-- Two RECLAIM records that wait for room on RP, whose queue holds 256 events. -/
def crowded : State :=
  let record (n : Nat) : Fragment := { Fragment.powerOn with
    condition := .pendingReport .durable, stream := 3, origin := .reclaim, tag := BitVec.ofNat 32 n, sectors := 1
    placed := 1, durable := 1 }
  let s := ((relocating.setRecord 0 (record 100)).setRecord 1 (record 101)).setRecord 2 (record 102)
  { s.setPort .rp { s.port .rp with events := List.replicate 256 (.streamClosed 9), lost := true } with
    reclaimInUse := 3, reports := [.fragment 1, .fragment 0, .fragment 2] }

theorem witness_CollectGivesTheOldestEvents_placed : crowded.reaches (.collect rp 2) = true ∧
    (crowded.port .rp).events ≠ [] ∧ crowded.reports = [1, 0, 2].map Completion.fragment ∧ [1, 0, 2].Nodup ∧
    (∀ r ∈ [1, 0, 2], (crowded.record r).condition = .pendingReport .durable ∧ (crowded.record r).origin = .reclaim ∧
      (crowded.stream (crowded.record r).stream).state ≠ .draining) ∧ crowded.budget.reclaimWait = .none := by decide +kernel

/-- The conditions of a cut, from a check of each. -/
theorem ready_of {s : State} {i k : Nat} {g : Seg} (h : decide ((s.stream i).state ≠ .free ∧ (s.stream i).state ≠ .halted ∧
    (s.stream i).chain.Nodup ∧ (s.stream i).inFlight < (s.stream i).depth ∧ (s.stream i).writePoint = some g ∧
    (s.die g.die).inFlight < s.limits.dieInFlight ∧ (s.segment g).state = .opened ∧ (s.segment g).nextUnit < s.geo.units ∧
    k < 512 ∧ (s.slot k).batch = none ∧ ∀ j, j < k → (s.slot j).batch ≠ none) = true) : s.pointReady i g k :=
  (of_decide_eq_true h :)

/-- Function 5 with the three uncut sectors of stream 40 outstanding. -/
def owing (s : State) : State := s.setFunction 5 { enabled with openStreams := 1, held := 3, outstanding := 1, serial := 1 }

/-- The write point of stream 40 has one unit left. -/
def lastUnit (s : State) : State := s.setSegment ⟨0, 3⟩ { s.segment ⟨0, 3⟩ with nextUnit := 15 }

/-- Stream 40 has as many batches in flight as its depth. -/
def atDepth (s : State) : State := stream40 (fun st => { st with inFlight := st.depth }) s

theorem witness_CloseStreamStartsToDrain_uncut :
    let s := sealed (.armed 1001)
    (s.reaches (.closeStream mp0 40) = true ∧ s.working = true ∧ (s.stream 40).cls = .tenant ∧
      (s.stream 40).state = .active ∧ 1 ≤ s.uncut 40 ∧ s.uncut 40 ≤ s.geo.sectors) ∧
    s.pointReady 40 ⟨0, 3⟩ 0 ∧ (lastUnit s).pointReady 40 ⟨0, 3⟩ 0 ∧
    ((atDepth s).reaches (.closeStream mp0 40) = true ∧ 1 ≤ (atDepth s).uncut 40) ∧ (atDepth s).blocked 40 :=
  ⟨by decide +kernel, ready_of (by decide +kernel), ready_of (by decide +kernel), by decide +kernel,
    .inr (.inr (.inl (by decide +kernel)))⟩

/-- Of the streams, only stream 40 is open. -/
theorem only40 {s : State} {x : Stream} (h : s.streams = [(40, x)]) (n : Nat) (hn : (s.stream n).state ≠ .free) : n = 40 := by
  by_contra hj
  refine hn ?_
  simp only [State.stream, h, Table.read, if_neg hj]
  split <;> rfl

theorem witness_FenceFunctionInDrainMode_uncut :
    let s := owing (sealed (.armed 1001))
    (s.reaches (.fenceFunction mp0 5 1) = true ∧ s.device = .run ∧ (s.function 5).state = .enabled ∧
      (s.function 5).outstanding ≠ 0 ∧ s.uncut 40 ≤ s.geo.sectors) ∧ s.pointReady 40 ⟨0, 3⟩ 0 ∧
    (∀ n, s.ofFunction 5 n = true ∧ 1 ≤ s.uncut n ↔ n = 40) ∧ (atDepth s).reaches (.fenceFunction mp0 5 1) = true ∧
    (∀ n, (atDepth s).ofFunction 5 n = true → 1 ≤ (atDepth s).uncut n → (atDepth s).blocked n) := by
  refine ⟨by decide +kernel, ready_of (by decide +kernel), fun n => ⟨fun h => ?_, fun h => by subst h; decide +kernel⟩,
    by decide +kernel, fun n h _ => ?_⟩
  · refine only40 (s := owing (sealed (.armed 1001))) rfl n fun hf => ?_
    simp only [State.ofFunction, Bool.and_eq_true, decide_eq_true_eq] at h
    exact h.1.1.1 hf
  · have hn : n = 40 := by
      refine only40 (s := atDepth (owing (sealed (.armed 1001)))) rfl n fun hf => ?_
      simp only [State.ofFunction, Bool.and_eq_true, decide_eq_true_eq] at h
      exact h.1.1 hf
    subst hn
    exact .inr (.inr (.inl (by decide +kernel)))

theorem witness_FlushFunctionWaitsForOlderRecords_uncut :
    let s := owing (sealed (.armed 1001))
    s.reaches (.flushFunction fp 5 9) = true ∧ (atDepth s).reaches (.flushFunction fp 5 9) = true ∧
      (s.function 5).state ≠ .disabled ∧ (s.function 5).flush = .none ∧ Table.canonical .powerOn s.records = true ∧
      (s.record 0).condition = .chained ∧ (s.record 0).origin = .tenant 5 0 ∧ ((s.function 5).serial - 0).toNat = 1 := by
  decide +kernel

theorem witness_ResetAndPowerFail_uncut :
    let s := sealed (.armed 1001)
    (s.control.powerFail = false ∧ s.device = .run ∧ Table.canonical .powerOn s.records = true ∧
      (s.record 0).condition = .chained ∧ (s.stream (s.record 0).stream).state ≠ .halted ∧ s.uncut 40 ≤ s.geo.sectors) ∧
    (∀ n, (s.stream n).state ≠ .free ∧ 1 ≤ s.uncut n ↔ n = 40) ∧ s.pointReady 40 ⟨0, 3⟩ 0 :=
  ⟨by decide +kernel, fun n => ⟨fun h => only40 (s := sealed (.armed 1001)) rfl n h.1,
    fun h => by subst h; decide +kernel⟩, ready_of (by decide +kernel)⟩

/-- Stream 40 HALTED with two records, the first partly durable. -/
def haltedTenant : State :=
  let record (n d : Nat) (a : Word) : Fragment :=
    { Fragment.powerOn with condition := .chained, stream := 40, origin := .tenant 5 a, tag := a + 100
                            sectors := n, placed := d, durable := d }
  let s := stream40 (fun st => { st with state := .halted, failures := 3, chain := [0, 1] }) bound
  let s := ((s.setRecord 0 (record 8 4 0)).setRecord 1 (record 5 0 1)).setFunction 5
    { enabled with openStreams := 1, reserve := 6, held := 9, outstanding := 2, serial := 2 }
  { s with tenantInUse := 2, budget := { s.budget with total := 9 } }

theorem haltedTenant_waits (g : Nat) : (haltedTenant.function g).wait = .none :=
  functions_all (s := haltedTenant) (P := fun fr => fr.wait = .none) (by decide +kernel) (by decide +kernel) g

theorem witness_DiscardStreamGivesUpTheChain_tenant : (haltedTenant.reaches (.discardStream mp0 40) = true ∧
    haltedTenant.reaches (.discardStream mp0 1024) = true ∧ bound.reaches (.discardStream mp0 40) = true ∧
    haltedTenant.device = .run ∧ (haltedTenant.stream 40).state = .halted ∧ (haltedTenant.stream 40).cls = .tenant ∧
    (haltedTenant.stream 40).chain.Nodup ∧ (haltedTenant.function 5).state ≠ .disabled ∧
    (haltedTenant.function 5).flush = .none ∧ (haltedTenant.function 5).fence = none ∧ haltedTenant.reports = []) ∧
    (∀ r ∈ (haltedTenant.stream 40).chain, (∃ a, (haltedTenant.record r).origin = .tenant 5 a) ∧
      (haltedTenant.record r).stream = 40 ∧ (haltedTenant.record r).durable = (haltedTenant.record r).placed) := by
  refine ⟨by decide +kernel, fun r h => ?_⟩
  have : (haltedTenant.stream 40).chain = [0, 1] := by decide +kernel
  rw [this] at h
  rcases List.mem_pair.1 h with rfl | rfl
  · exact ⟨⟨0, by decide +kernel⟩, by decide +kernel⟩
  · exact ⟨⟨1, by decide +kernel⟩, by decide +kernel⟩

/-! ### Hypotheses of the clauses on writes, results, closes and arbiters -/

/-- Stream 40 with three sectors of record 0 uncut and a write point, and a high-water mark of HW. -/
def filling (hw : Nat) : State :=
  let s := owing (sealed (.armed 1001))
  s.setControl { s.control with limits := { s.limits with highWater := hw } }

theorem witness_SubmitAdmitsATenantWrite_cut :
    let s := filling 0
    (s.reaches (.submit fp 5 0 0 7 9 1 4096 3) = true ∧ s.binding 5 0 = some 40 ∧ (s.stream 40).state = .active ∧
      s.uncut 40 = 3 ∧ s.geo.sectors = 4 ∧ (s.record 1).condition = .free ∧ (s.record 0).condition ≠ .free ∧
      1 ∉ (s.stream 40).chain) ∧ s.pointReady 40 ⟨0, 3⟩ 0 ∧
    (s.reaches (.submit fp 5 0 0 7 9 1 4096 1) = true ∧ s.uncut 40 + 1 = s.geo.sectors) :=
  ⟨by decide +kernel, ready_of (by decide +kernel), by decide +kernel⟩

/-- Stream 41 with two sectors uncut, older than the one of stream 40, which is bound to hint 0; a high-water mark of HW. -/
def pressed (hw at41 : Nat) : State :=
  let s := (bound.setRecord 0 { record40 1 0 0 with admitted := 995 }).setRecord 1
    { record40 2 0 0 with stream := 41, admitted := 990 }
  let s := s.setStream 41 { Stream.opened .tenant 5 0 3 with
    state := .active, chain := [1], inFlight := at41, writePoint := some ⟨0, 3⟩ }
  let s := s.setSegment ⟨0, 3⟩ { Segment.powerOn with state := .opened, owner := some 41, cls := .tenant, nextUnit := 1 }
  let s := (stream40 (fun st => { st with chain := [0] }) s).setFunction 5
    { enabled with openStreams := 2, held := 3, outstanding := 2 }
  { s.setControl { s.control with limits := { s.limits with highWater := hw } } with
    tenantInUse := 2, budget := { s.budget with total := 3 } }

/-- The state that the admission leaves, before the pressure test, is that of the same write with the test switched off. -/
theorem witness_SubmitAdmitsATenantWrite_pressure :
    let i : Instr := .submit fp 5 0 0 7 9 1 4096 1
    ((pressed 4 1).reaches i = true ∧ (pressed 4 1).uncut 40 + 1 < (pressed 4 1).geo.sectors ∧
      (pressed 4 1).limits.highWater = (pressed 4 1).budget.total + 1 ∧ ((pressed 4 1).stream 40).sealing ≠ .pending) ∧
    ((after i (pressed 0 1)).pressureStream = some 41 ∧ (after i (pressed 0 2)).pressureStream = some 41) ∧
    (after i (pressed 0 1)).pointReady 41 ⟨0, 3⟩ 0 ∧ (after i (pressed 0 2)).blocked 41 :=
  ⟨by decide +kernel, by decide +kernel, ready_of (by decide +kernel), .inr (.inr (.inl (by decide +kernel)))⟩

/-- The segment of `flying` FILLED, with its one outstanding unit the last. -/
def filled : State :=
  let s := flying 9 8 4
  let s := s.setSegment ⟨0, 3⟩ { Segment.powerOn with
    state := .filled, owner := some 40, cls := .tenant, nextUnit := 16, doneUnits := 15, written := 60, valid := 7 }
  let s := s.setSlot 9 ⟨6, some { batch40 4 4 with unit := 15 }⟩
  stream40 (fun st => { st with state := .idle, writePoint := none, finishing := some ⟨0, 3⟩ }) s

/-- A batch of RECLAIM stream 3 in slot 9, and a reclaim wait of the given size. -/
def relocated (size : Nat) : State :=
  let s := relocating.setRecord 0 { Fragment.powerOn with
    condition := .chained, stream := 3, origin := .reclaim, tag := 7, sectors := 9, placed := 4 }
  let s := s.setStream 3 { s.stream 3 with
    state := .active, chain := [0], inFlight := 1, writePoint := some ⟨0, 3⟩, depth := 1, failures := 2, sealing := .pending }
  let s := s.setRecord 0 { s.record 0 with placed := 9 }
  let s := s.setSegment ⟨0, 3⟩ { Segment.powerOn with state := .opened, owner := some 3, cls := .reclaim, nextUnit := 1 }
  let s := s.setDie 0 { dieOf .core0 with inFlight := 1, openPoints := 1 }
  { s.setSlot 9 ⟨6, some { batch40 0 4 with stream := 3, cls := .reclaim }⟩ with
    reclaimInUse := 1, budget := { s.budget with reclaimHeld := 9, reclaimWait := .budget size } }

theorem witness_DoneAdvancesTheSegment_filled :
    (let s := filled
     s.reaches (.batchResultDone mp0 9 6) = true ∧ (s.segment ⟨0, 3⟩).state = .filled ∧
      s.geo.units = (s.segment ⟨0, 3⟩).doneUnits + 1 ∧ (s.segment ⟨0, 3⟩).owner = some 40 ∧
      (s.stream 40).writePoint = none ∧ (s.stream 40).finishing = some ⟨0, 3⟩ ∧ (s.stream 40).state = .idle ∧
      (s.record 0).durable + 4 < (s.record 0).sectors ∧ s.uncut 40 < s.geo.sectors) ∧
    (let s := relocated 4091
     s.reaches (.batchResultDone mp0 9 6) = true ∧ (s.stream 3).cls = .reclaim ∧ s.uncut 3 = 0 ∧
      (s.record 0).durable + 4 < (s.record 0).sectors ∧ s.budget.reclaimHeld - 4 + 4091 ≤ s.limits.reclaimHeld ∧
      s.limits.reclaimHeld < s.budget.reclaimHeld - 4 + 4092) := by decide +kernel

/-- Stream 40 with two more batches in flight behind that of slot 9, the last of them in the queue, and two records. -/
def threeFlying : State :=
  let s := flying 6 6 4
  let s := (s.setRecord 0 { s.record 0 with durable := 5, placed := 6 }).setRecord 1 (record40 2 1 0)
  let s := s.setSegment ⟨0, 3⟩ { s.segment ⟨0, 3⟩ with nextUnit := 3 }
  let s := stream40 (fun st => { st with chain := [0, 1], inFlight := 3, depth := 4, failures := 1 }) s
  let s := s.setSlot 9 ⟨6, some (batch40 5 1)⟩
  let s := s.setSlot 4 ⟨8, some { batch40 0 1 with unit := 2, phase := .queued }⟩
  let s := s.setSlot 200 ⟨255, some { batch40 0 1 with unit := 1 }⟩
  let s := s.setFunction 5 { enabled with timeout := 0, held := 10 }
  { s.setDie 0 { dieOf .core0 with inFlight := 3, openPoints := 1 } with
    queues := { core0 := [7, 4], core1 := [9], parked := [4] } }

theorem witness_FailedHaltsTheStream_later :
    let s := threeFlying
    (s.reaches (.batchResultFailed mp0 9 6 1) = true ∧ s.device = .run ∧ Table.canonical .powerOn s.slots = true ∧
      [9, 200, 4].Pairwise (fun x y => s.unitOf x < s.unitOf y) ∧ (s.stream 40).chain = [] ++ 0 :: [1] ∧
      (s.stream 40).chain.Nodup ∧ (s.stream 40).failures + 1 < s.limits.failureLimit ∧ (s.function 5).state = .enabled ∧
      (s.function 5).flush = .none ∧ (s.function 5).timeout = 0 ∧ 0 + ((s.record 0).stop - 5) + (s.record 1).stop < s.geo.sectors) ∧
    ∀ m, (∃ x, (s.slot m).batch = some x ∧ x.stream = 40) ↔ m = 9 ∨ m ∈ [200, 4] := by
  refine ⟨by decide +kernel, fun m => ⟨fun h => ?_, fun h => ?_⟩⟩
  · by_contra hm
    simp only [List.mem_cons, List.not_mem_nil, or_false, not_or] at hm
    obtain ⟨x, hx, -⟩ := h
    have : (threeFlying.slot m).batch = none := by
      show (Table.read Slot.powerOn [(4, _), (9, _), (200, _)] m).batch = none
      simp only [Table.read, if_neg hm.1, if_neg hm.2.1, if_neg hm.2.2]
      repeat' split
      all_goals rfl
    rw [this] at hx
    cases hx
  · simp only [List.mem_cons, List.not_mem_nil, or_false] at h
    rcases h with rfl | rfl | rfl <;> exact ⟨_, rfl, by decide +kernel⟩

theorem witness_NominateTakesTheFirstInRank_range : base.reaches (.nominate rp 0xFF 2 0 1) = true ∧
    base.reaches (.nominate rp 0xFF 0 4 1) = true ∧ base.reaches (.nominate rp 0xFF 0 3 0) = true ∧
    base.reaches (.nominate rp 0xFF 0 3 9) = true ∧ base.reaches (.nominate rp 2 0 3 8) = true ∧ base.device = .run ∧
    base.geo.dies ≤ (2 : Byte).toNat := by decide +kernel

theorem witness_SealExpiryCutsTheRemainder_filling : ((lastUnit (sealed (.armed 1000))).stream 40).sealing = .armed 1000 ∧
    (lastUnit (sealed (.armed 1000))).pointReady 40 ⟨0, 3⟩ 0 ∧
    (lastUnit (sealed (.armed 1000))).uncut 40 ≤ (lastUnit (sealed (.armed 1000))).geo.sectors :=
  ⟨by decide +kernel, ready_of (by decide +kernel), by decide +kernel⟩

/-- A TENANT record that waits to be reported. -/
def reportingTenant : State :=
  let s := bound.setRecord 0 { Fragment.powerOn with
    condition := .pendingReport .discarded, stream := 40, origin := .tenant 5 0, tag := 78, sectors := 1 }
  { s.setFunction 5 { enabled with state := .fenced, outstanding := 2, fence := some (.drain, .mp0) } with
    tenantInUse := 1, reports := [.fragment 0] }

theorem witness_CompletionsAreReportedInOrder_tenant : ((reportingTenant.record 0).condition = .pendingReport .discarded ∧
    (reportingTenant.record 0).origin = .tenant 5 0 ∧ reportingTenant.oldestReport .fp = some (.fragment 0) ∧
    2 ≤ (reportingTenant.function 5).outstanding ∧ (reportingTenant.stream 40).state ≠ .draining) ∧
    reportingTenant.roomFor 1 ∧ ∀ g k, (reportingTenant.function g).wait ≠ .records k :=
  ⟨by decide +kernel, room_of (by decide +kernel), fun g k => by
    rw [functions_all (s := reportingTenant) (P := fun fr => fr.wait = .none) (by decide +kernel) (by decide +kernel) g]
    exact nofun⟩

/-- TENANT stream 40 DRAINING with a write point of which `units` units are written, and `free` blocks in its die's queue. -/
def closing (units free : Nat) : State :=
  let s := stream40 (fun st => { st with state := .draining, requester := some .mp1, writePoint := some ⟨0, 3⟩ }) bound
  let s := s.setSegment ⟨0, 3⟩ { Segment.powerOn with
    state := .opened, owner := some 40, cls := .tenant, nextUnit := units, doneUnits := units, written := units }
  s.setDie 0 { dieOf .core0 with
    freeQueue := List.range' 100 free, openPoints := 1, supplyLow := true, slotWait := [7, 40, 8] }

theorem witness_ClosesFencesAndTheDrainComplete_point :
    (∀ s ∈ [closing 5 0, closing 0 3, closing 0 31, closing 0 32],
      (s.stream 40).state = .draining ∧ (s.stream 40).chain = [] ∧ (s.stream 40).inFlight = 0 ∧ s.reportsOf 40 = false ∧
      (s.stream 40).requester = some .mp1 ∧ (s.stream 40).writePoint = some ⟨0, 3⟩ ∧ (s.segment ⟨0, 3⟩).state = .opened ∧
      (s.segment ⟨0, 3⟩).owner = some 40 ∧ s.waitSupply = []) ∧
    1 ≤ ((closing 5 0).segment ⟨0, 3⟩).nextUnit ∧ ((closing 0 31).segment ⟨0, 3⟩).nextUnit = 0 ∧
    ((closing 0 31).die 0).freeQueue.length < 32 ∧ 32 ≤ ((closing 0 32).die 0).freeQueue.length := by decide +kernel

/-- A mask names one eligible die, when it does so among the dies of the device. -/
theorem only_eligible {s : State} {mask : DieMask} {d : Nat} (hd : d < s.geo.dies)
    (h : ∀ x, x < s.geo.dies → (s.eligible mask x = true ↔ x = d)) (x : Nat) : s.eligible mask x = true ↔ x = d := by
  by_cases hx : x < s.geo.dies
  · exact h x hx
  · exact ⟨fun he => by simp [State.eligible, hx] at he, fun he => absurd (he ▸ hd) hx⟩

/-- Streams 40, 41 and 42 wait for a slot of die 0, which has one left. -/
def slotless3 : State := (sealed .pending).setDie 0 { dieOf .core0 with inFlight := 3, openPoints := 1, slotWait := [40, 41, 42] }

/-- Streams 41, 40, 43 wait for supply, in that order; only stream 40's mask has die 1, and stream 9 waits for its slots. -/
def unsupplied3 : State :=
  let s := (unsupplied.setStream 41 { Stream.opened .tenant 5 0 1 with state := .waitSupply }).setStream 43
    { Stream.opened .tenant 5 0 1 with state := .waitSupply }
  { s.setDie 1 { s.die 1 with freeQueue := [9, 10], slotWait := [9] } with waitSupply := [41, 40, 43] }

theorem witness_ArbitersServeTheHead_others :
    (slotless3.die 0).slotWait = 40 :: [41, 42] ∧ slotless3.limits.dieInFlight = (slotless3.die 0).inFlight + 1 ∧
    (slotless3.stream 40).sealing = .pending ∧ slotless3.pointReady 40 ⟨0, 3⟩ 0 ∧
    (unsupplied3.waitSupply = [41] ++ 40 :: [43] ∧ (∀ n ∈ [41], (unsupplied3.stream n).mask.getLsbD 1 = false) ∧
      (∀ n ∈ [43], (unsupplied3.stream n).mask.getLsbD 1 = false) ∧ (unsupplied3.die 1).freeQueue = 9 :: [10] ∧
      40 ∉ (unsupplied3.die 1).slotWait ∧ (unsupplied3.stream 40).state = .waitSupply) ∧
    ∀ x, unsupplied3.eligible (unsupplied3.stream 40).mask x = true ↔ x = 1 :=
  ⟨by decide +kernel, by decide +kernel, by decide +kernel, ready_of (by decide +kernel), by decide +kernel,
    only_eligible (by decide +kernel) (by decide +kernel)⟩

theorem witness_QueriesReportAndChangeNothing_fields : base.canonical = true ∧ 1 ≤ base.geo.blocks ∧
    (∀ k, 1024 ≤ k → (base.stream k).state = .free) ∧ ∀ k, 512 ≤ k → (base.slot k).batch = none :=
  ⟨by decide +kernel, by decide +kernel, fun _ _ => rfl, fun _ _ => rfl⟩

end Sys2Proof.Tests
end

section
/-! The settlement of O19 (R12, R13): what `bindTo` does to the Binding Table and to the bound hints counts, what
BIND's owner answers, and from the two the execution of BIND. -/

namespace Sys2Proof.Machine

variable {s : State} {f k i j : Nat}

/-! ### The entry comes to name the stream (R6, R13) -/

theorem State.bindTo_of_named (h : s.binding f k = some i) : s.bindTo f k i = s := if_pos h

theorem State.bindTo_of_empty (h : s.binding f k = none) :
    s.bindTo f k i = (s.raiseHints i).setBinding f k (some i) := by
  simp [State.bindTo, State.unbind, h]

theorem State.bindTo_of_other (h : s.binding f k = some j) (hji : j ≠ i) :
    s.bindTo f k i = (((s.lowerHints j).setBinding f k none).raiseHints i).setBinding f k (some i) := by
  simp [State.bindTo, State.unbind, h, hji]

/-- R13 writes stream contexts and the Binding Table alone. -/
theorem State.bindTo_rest (s : State) (f k i : Nat) :
    s.bindTo f k i = { s with streams := (s.bindTo f k i).streams, bindings := (s.bindTo f k i).bindings } := by
  unfold State.bindTo State.unbind
  split
  · rfl
  · split <;> rfl

@[simp] theorem State.bindTo_queues (s : State) (f k i : Nat) : (s.bindTo f k i).queues = s.queues := by
  rw [State.bindTo_rest]
@[simp] theorem State.bindTo_ports (s : State) (f k i : Nat) : (s.bindTo f k i).ports = s.ports := by
  rw [State.bindTo_rest]

@[simp] theorem State.setLink_bindTo (s : State) (p : Port) (l : Link) (f k i : Nat) :
    (s.setLink p l).bindTo f k i = (s.bindTo f k i).setLink p l := by
  unfold State.bindTo State.unbind
  rw [State.setLink_binding]
  split
  · rfl
  · split <;> rfl

/-- Whatever the entry held, it names the stream afterwards, and no other entry changes. -/
theorem State.bindTo_binding (s : State) (f k i a b : Nat) : (s.bindTo f k i).binding a b =
    if bindingIndex a b = bindingIndex f k then some i else s.binding a b := by
  have same_entry (h : bindingIndex a b = bindingIndex f k) : s.binding a b = s.binding f k := by
    simp only [State.binding, h]
  cases hb : s.binding f k with
  | none => rw [State.bindTo_of_empty hb]; exact State.setBinding_binding ..
  | some j =>
    by_cases hji : j = i
    · subst hji
      rw [State.bindTo_of_named hb]
      split
      · next h => rw [same_entry h, hb]
      · rfl
    · rw [State.bindTo_of_other hb hji, State.setBinding_binding]
      split
      · rfl
      · next h => simp [State.raiseHints, State.lowerHints, State.setBinding_binding, h]

/-- The stream that the entry named gives up a bound hint, and the new one gains it. -/
theorem State.bindTo_stream_of_other (h : s.binding f k = some j) (hji : j ≠ i) (n : Nat) :
    (s.bindTo f k i).stream n = if n = i then { s.stream i with boundHints := (s.stream i).boundHints + 1 }
    else if n = j then { s.stream j with boundHints := (s.stream j).boundHints - 1 } else s.stream n := by
  simp [State.bindTo_of_other h hji, State.raiseHints, State.lowerHints, State.setStream_stream, hji.symm]

/-! ### BIND's owner (R9, R12) -/

theorem Stream.takesBinding_iff (st : Stream) : st.takesBinding f = true ↔
    st.cls = .tenant ∧ st.owner = f ∧ (st.state = .idle ∨ st.state = .active ∨ st.state = .waitSupply) := by
  simp [Stream.takesBinding, and_assoc, or_assoc]

variable {v : Via} {fn hint : Byte} {stream : Half}

theorem bindAct_of_outOfRange (hd : s.device = .run) (h : 7 < hint.toNat ∨ 1023 < stream.toNat) :
    bindAct fn hint stream s = s.refuse .range := by
  rw [bindAct, State.whileRun_pass _ hd]
  exact if_pos (by simpa using h)

theorem bindAct_of_cannotTake (hd : s.device = .run) (hh : hint.toNat ≤ 7) (hi : stream.toNat ≤ 1023)
    (h : (s.function fn.toNat).state = .disabled ∨ ¬ (s.stream stream.toNat).takesBinding fn.toNat = true) :
    bindAct fn hint stream s = s.refuse .state := by
  rw [bindAct, State.whileRun_pass _ hd]
  exact (if_neg (by simp; omega)).trans (if_pos (by simpa using h))

theorem bindAct_of_takes (hd : s.device = .run) (hh : hint.toNat ≤ 7) (hi : stream.toNat ≤ 1023)
    (hf : (s.function fn.toNat).state ≠ .disabled) (ht : (s.stream stream.toNat).takesBinding fn.toNat = true) :
    bindAct fn hint stream s = ⟨.ok, [], s.bindTo fn.toNat hint.toNat stream.toNat⟩ := by
  rw [bindAct, State.whileRun_pass _ hd]
  exact (if_neg (by simp; omega)).trans (if_neg (by simp [hf, ht]))

/-! ### The execution of BIND -/

theorem exec_bind_refused {c : Code} (hr : s.reaches (.bind v fn hint stream) = true)
    (h : bindAct fn hint stream (s.setLink v.port .taken) = (s.setLink v.port .taken).refuse c) :
    exec (.bind v fn hint stream) s = .next (s.answered (.bind v fn hint stream) c []) :=
  congrArg Host.Outcome.next (requestStep_refused _ _ s c hr h)

theorem exec_bind_accepted (hr : s.reaches (.bind v fn hint stream) = true) (hd : s.device = .run)
    (hh : hint.toNat ≤ 7) (hi : stream.toNat ≤ 1023) (hf : (s.function fn.toNat).state ≠ .disabled)
    (ht : (s.stream stream.toNat).takesBinding fn.toNat = true) :
    exec (.bind v fn hint stream) s =
      .next ((s.bindTo fn.toNat hint.toNat stream.toNat).answered (.bind v fn hint stream) .ok []) := by
  have act : bindAct fn hint stream (s.setLink v.port .taken) =
      ⟨.ok, [], (s.bindTo fn.toNat hint.toNat stream.toNat).setLink v.port .taken⟩ := by
    rw [← State.setLink_bindTo]
    exact bindAct_of_takes hd hh hi hf ht
  exact congrArg Host.Outcome.next
    (requestStep_quiet _ _ s _ .ok [] hr act (State.bindTo_queues ..) (State.bindTo_ports ..))

/-- Settles O19: BIND's owner refuses or binds (`bindAct_of_…`), and an accepted BIND answers `bindTo`, whose effect
depends on whether the entry named this stream, none, or another. -/
theorem bindMovesTheHint : Obligations.BindMovesTheHint := by
  unfold Obligations.BindMovesTheHint
  intro v fn hint stream s hr hd
  simp only [← Stream.takesBinding_iff]
  refine ⟨fun h => exec_bind_refused hr (bindAct_of_outOfRange hd h), fun hh hi =>
    ⟨fun h => exec_bind_refused hr (bindAct_of_cannotTake hd hh hi h), fun hf ht => ?_⟩⟩
  have accepted := exec_bind_accepted hr hd hh hi hf ht
  refine ⟨fun hb => ?named, fun hb => ?empty, fun j hb hji => ?other⟩
  case named => rwa [State.bindTo_of_named hb] at accepted
  case empty => rwa [State.bindTo_of_empty hb] at accepted
  case other =>
    exact ⟨_, accepted, State.bindTo_rest .., State.bindTo_binding s _ _ _, State.bindTo_stream_of_other hb hji⟩

end Sys2Proof.Machine
end

section
/-! The settlement of O41 (R102): which batch a ticket names, what the owner of the repeat form of TAKE BATCH answers,
and from the two the execution of the request. -/

namespace Sys2Proof.Machine

variable {s : State} {p : Port} {v : Via} {slot : Half} {gen : Byte} {n : Nat} {b : Batch} {deadline : Word}

/-! ### The batch that a ticket names (R102, R103) -/

theorem State.heldBatch_of_free (h : (s.slot n).batch = none) : s.heldBatch p n gen = none := by
  rw [State.heldBatch, h]

theorem State.heldBatch_of_queued (h : (s.slot n).batch = some b) (hb : b.phase = .queued) :
    s.heldBatch p n gen = none := by
  rw [State.heldBatch, h]
  simp only [hb]

theorem State.heldBatch_of_taken (h : (s.slot n).batch = some b) (hb : b.phase = .taken deadline) :
    s.heldBatch p n gen = if (s.slot n).gen = gen ∧ ∃ c, portCore p = some c ∧ b.place = .core c
      then some (b, deadline) else none := by
  rw [State.heldBatch, h]
  simp only [hb]
  cases b.place with
  | parked => simp
  | core k =>
    cases portCore p with
    | none => simp
    | some c => simp

/-- A ticket names a batch just when its slot holds that batch, of its generation, TAKEN by the core of its port. -/
theorem State.heldBatch_eq_some_iff : s.heldBatch p n gen = some (b, deadline) ↔
    (s.slot n).batch = some b ∧ (s.slot n).gen = gen ∧ b.phase = .taken deadline ∧
      ∃ c, portCore p = some c ∧ b.place = .core c := by
  cases hslot : (s.slot n).batch with
  | none => simp [State.heldBatch_of_free hslot]
  | some x =>
    cases hx : x.phase with
    | queued =>
      rw [State.heldBatch_of_queued hslot hx]
      refine ⟨nofun, fun ⟨hb, _, taken, _⟩ => ?_⟩
      cases hb
      rw [hx] at taken
      cases taken
    | taken d =>
      rw [State.heldBatch_of_taken hslot hx, Option.ite_none_right_eq_some, Option.some.injEq, Prod.mk.injEq]
      constructor
      · rintro ⟨⟨hgen, hcore⟩, rfl, rfl⟩
        exact ⟨rfl, hgen, hx, hcore⟩
      · rintro ⟨hb, hgen, taken, hcore⟩
        cases hb
        rw [hx] at taken
        cases taken
        exact ⟨⟨hgen, hcore⟩, rfl, rfl⟩

theorem State.setLink_heldBatch (q : Port) (l : Link) :
    (s.setLink q l).heldBatch p n gen = s.heldBatch p n gen := rfl

/-! ### TAKE BATCH's owner, repeat form (R102) -/

theorem takeBatchRepeatAct_of_outOfRange (hw : s.working = true) (h : 511 < slot.toNat) :
    takeBatchRepeatAct p slot gen s = s.refuse .range := by
  rw [takeBatchRepeatAct, State.whileRunOrDrain_pass _ hw, if_pos h]

theorem takeBatchRepeatAct_of_held (hw : s.working = true) (hn : slot.toNat ≤ 511)
    (h : s.heldBatch p slot.toNat gen = some (b, deadline)) :
    takeBatchRepeatAct p slot gen s = ⟨.ok, batchRecord slot.toNat gen deadline b, s⟩ := by
  rw [takeBatchRepeatAct, State.whileRunOrDrain_pass _ hw, if_neg hn.not_gt, h]

theorem takeBatchRepeatAct_of_stale (hw : s.working = true) (hn : slot.toNat ≤ 511)
    (h : s.heldBatch p slot.toNat gen = none) : takeBatchRepeatAct p slot gen s = s.refuse .stale := by
  rw [takeBatchRepeatAct, State.whileRunOrDrain_pass _ hw, if_neg hn.not_gt, h]

/-! ### The execution of a repeat TAKE BATCH -/

theorem exec_takeBatchRepeat_refused {c : Code} (hr : s.reaches (.takeBatchRepeat v slot gen) = true)
    (h : takeBatchRepeatAct v.port slot gen (s.setLink v.port .taken) = (s.setLink v.port .taken).refuse c) :
    exec (.takeBatchRepeat v slot gen) s = .next (s.answered (.takeBatchRepeat v slot gen) c []) :=
  congrArg Host.Outcome.next (requestStep_refused _ _ s c hr h)

theorem exec_takeBatchRepeat_held (hr : s.reaches (.takeBatchRepeat v slot gen) = true) (hw : s.working = true)
    (hn : slot.toNat ≤ 511) (h : s.heldBatch v.port slot.toNat gen = some (b, deadline)) :
    exec (.takeBatchRepeat v slot gen) s = .next
      (s.answered (.takeBatchRepeat v slot gen) .ok (batchRecord slot.toNat gen deadline b)) :=
  congrArg Host.Outcome.next
    (requestStep_quiet _ _ s s .ok _ hr
      (takeBatchRepeatAct_of_held hw hn ((State.setLink_heldBatch ..).trans h)) rfl rfl)

/-- Settles O41: the owner answers RANGE, the batch, or STALE, as its ticket is out of range, names a batch, or names
none, and changes nothing; `State.heldBatch_eq_some_iff` says when a ticket names a batch. -/
theorem repeatTakeGivesTheSameBatch : Obligations.RepeatTakeGivesTheSameBatch := by
  unfold Obligations.RepeatTakeGivesTheSameBatch
  intro v slot gen s hr hw
  simp only [← State.heldBatch_eq_some_iff]
  refine ⟨fun h => ?range, fun hn b deadline h => ?held, fun hn h => ?stale⟩
  case range => exact exec_takeBatchRepeat_refused hr (takeBatchRepeatAct_of_outOfRange hw h)
  case held => exact exec_takeBatchRepeat_held hr hw hn h
  case stale =>
    have none_held : s.heldBatch v.port slot.toNat gen = none :=
      Option.eq_none_iff_forall_ne_some.mpr fun ⟨b, deadline⟩ hb => h ⟨b, deadline, hb⟩
    exact exec_takeBatchRepeat_refused hr
      (takeBatchRepeatAct_of_stale hw hn ((State.setLink_heldBatch ..).trans none_held))

end Sys2Proof.Machine
end

section
/-! The settlement of O47 (R137): the range of each score and the AGED score at its corners; a nominee's utilization and
age are clamped (R135, R136), so its score has the range too. -/

namespace Sys2Proof.Machine

variable {u a : Nat}

/-! ### The inputs of the score (R135, R136) -/

theorem utilization_le (capacity valid : Nat) : utilization capacity valid ≤ 65535 := Nat.min_le_right ..

theorem clampedAge_le (age : Nat) : clampedAge age ≤ 65535 := Nat.min_le_right ..

/-! ### The scores (R137) -/

theorem score_greedy (u a : Nat) : score .greedy u a = 65535 - u := rfl

theorem score_aged (u a : Nat) : score .aged u a = (65536 - u) * a / (65536 + u) := rfl

/-- AGED multiplies the age by a fraction whose numerator is at most its denominator, so it never exceeds the age. -/
theorem score_aged_le_age (u a : Nat) : score .aged u a ≤ a := by
  have weight_le : 65536 - u ≤ 65536 + u := by omega
  exact Nat.div_le_of_le_mul (Nat.mul_le_mul_right a weight_le)

/-- The clamp on the age alone gives the range, whatever the policy and the utilization. -/
theorem score_le (p : Policy) (u : Nat) (ha : a ≤ 65535) : score p u a ≤ 65535 := by
  cases p with
  | greedy => exact Nat.sub_le 65535 u
  | aged => exact (score_aged_le_age u a).trans ha

@[simp] theorem score_aged_of_empty (a : Nat) : score .aged 0 a = a :=
  Nat.mul_div_cancel_left a (by decide)

/-- A full segment scores a / 131,071. -/
theorem score_aged_of_full (ha : a ≤ 65535) : score .aged 65535 a = 0 := by
  rw [score_aged]
  exact Nat.div_eq_of_lt (by omega)

@[simp] theorem score_aged_of_new (u : Nat) : score .aged u 0 = 0 := Nat.le_zero.mp (score_aged_le_age u 0)

/-! ### The figures of a nominee -/

variable (s : State) (p : Policy) (g : Seg)

theorem State.nominee_u_le : (s.nominee p g).u ≤ 65535 := utilization_le ..

theorem State.nominee_a_le : (s.nominee p g).a ≤ 65535 := clampedAge_le _

theorem State.nominee_score : (s.nominee p g).score = score p (s.nominee p g).u (s.nominee p g).a := rfl

theorem State.nominee_score_le : (s.nominee p g).score ≤ 65535 := by
  rw [State.nominee_score]
  exact score_le p _ (s.nominee_a_le p g)

/-- Settles O47: an AGED score is at most the age (`score_aged_le_age`), which gives its range, and a nominee's age is
clamped. -/
theorem scoresFollowThePolicy : Obligations.ScoresFollowThePolicy := by
  unfold Obligations.ScoresFollowThePolicy
  refine ⟨fun u a _ ha => ?scores, fun s p g => ?nominee⟩
  case scores =>
    exact ⟨score_greedy u a, score_aged u a, score_le .greedy u ha, score_le .aged u ha, score_aged_of_empty a,
      score_aged_of_full ha, score_aged_of_new u⟩
  case nominee => exact ⟨s.nominee_u_le p g, s.nominee_score_le p g, s.nominee_score p g⟩

end Sys2Proof.Machine
end

section
/-! The settlement of O3 and O4: what every operation of the running blocks keeps. `Keeps s t` says of a state t that
an operation led to from s what both invariants need; each operation keeps it by the writes it is made of. -/

namespace Sys2Proof.Machine

/-! ### What an operation keeps -/

/-- Between s and t the tables stayed canonical, no event queue outgrew its capacity, and no buffer changed. -/
structure State.Keeps (s t : State) : Prop where
  tables : s.canonical = true → t.canonical = true
  events : ∀ p, (s.port p).events.length ≤ eventCapacity p → (t.port p).events.length ≤ eventCapacity p
  requests : ∀ p, (t.port p).requests = (s.port p).requests
  responses : ∀ p, (t.port p).responses = (s.port p).responses

theorem State.canonical_iff (s : State) : s.canonical = true ↔
    Table.canonical .powerOn s.functions = true ∧ Table.canonical none s.bindings = true ∧
    Table.canonical .powerOn s.streams = true ∧ Table.canonical .powerOn s.records = true ∧
    Table.canonical .powerOn s.segments = true ∧ Table.canonical .powerOn s.dies = true ∧
    Table.canonical .powerOn s.slots = true := by
  simp only [State.canonical, Bool.and_eq_true, and_assoc]

/-- Canonical tables are kept where each table is kept. -/
theorem State.canonical_of_tables {s t : State} (hs : s.canonical = true)
    (hf : Table.canonical .powerOn s.functions = true → Table.canonical .powerOn t.functions = true)
    (hb : Table.canonical none s.bindings = true → Table.canonical none t.bindings = true)
    (hi : Table.canonical .powerOn s.streams = true → Table.canonical .powerOn t.streams = true)
    (hr : Table.canonical .powerOn s.records = true → Table.canonical .powerOn t.records = true)
    (hg : Table.canonical .powerOn s.segments = true → Table.canonical .powerOn t.segments = true)
    (hd : Table.canonical .powerOn s.dies = true → Table.canonical .powerOn t.dies = true)
    (hk : Table.canonical .powerOn s.slots = true → Table.canonical .powerOn t.slots = true) : t.canonical = true := by
  rw [State.canonical_iff] at hs ⊢
  obtain ⟨f, b, i, r, g, d, k⟩ := hs
  exact ⟨hf f, hb b, hi i, hr r, hg g, hd d, hk k⟩

namespace State.Keeps

variable {s t u : State}

@[refl] theorem refl (s : State) : s.Keeps s := ⟨id, fun _ => id, fun _ => rfl, fun _ => rfl⟩

@[trans] theorem trans (h : s.Keeps t) (g : t.Keeps u) : s.Keeps u where
  tables hs := g.tables (h.tables hs)
  events p hp := g.events p (h.events p hp)
  requests p := (g.requests p).trans (h.requests p)
  responses p := (g.responses p).trans (h.responses p)

/-- A write of the tables alone keeps what it needs to where it keeps the canonical form. -/
theorem of_ports (hp : t.ports = s.ports) (hc : s.canonical = true → t.canonical = true) : s.Keeps t := by
  have port_eq (p : Port) : t.port p = s.port p := congrArg (Ports.at · p) hp
  exact ⟨hc, fun p => by rw [port_eq]; exact id, fun p => by rw [port_eq], fun p => by rw [port_eq]⟩

/-- Writes of counts, lists and queues keep everything. -/
theorem of_same (hp : t.ports = s.ports) (hf : t.functions = s.functions) (hb : t.bindings = s.bindings)
    (hi : t.streams = s.streams) (hr : t.records = s.records) (hg : t.segments = s.segments) (hd : t.dies = s.dies)
    (hk : t.slots = s.slots) : s.Keeps t := by
  refine of_ports hp fun hs => ?_
  rw [State.canonical_iff] at hs ⊢
  rwa [hf, hb, hi, hr, hg, hd, hk]

/-! ### Writes -/

theorem setStream (h : s.Keeps t) (i : Nat) (v : Stream) : s.Keeps (t.setStream i v) :=
  h.trans (of_ports rfl fun ht => canonical_of_tables ht id id (Table.canonical_write _ _ _ _) id id id id)
theorem setFunction (h : s.Keeps t) (f : Nat) (v : Function) : s.Keeps (t.setFunction f v) :=
  h.trans (of_ports rfl fun ht => canonical_of_tables ht (Table.canonical_write _ _ _ _) id id id id id id)
theorem setRecord (h : s.Keeps t) (r : Nat) (v : Fragment) : s.Keeps (t.setRecord r v) :=
  h.trans (of_ports rfl fun ht => canonical_of_tables ht id id id (Table.canonical_write _ _ _ _) id id id)
theorem setDie (h : s.Keeps t) (d : Nat) (v : Die) : s.Keeps (t.setDie d v) :=
  h.trans (of_ports rfl fun ht => canonical_of_tables ht id id id id id (Table.canonical_write _ _ _ _) id)
theorem setSlot (h : s.Keeps t) (k : Nat) (v : Slot) : s.Keeps (t.setSlot k v) :=
  h.trans (of_ports rfl fun ht => canonical_of_tables ht id id id id id id (Table.canonical_write _ _ _ _))
theorem setBinding (h : s.Keeps t) (f k : Nat) (v : Option Nat) : s.Keeps (t.setBinding f k v) :=
  h.trans (of_ports rfl fun ht => canonical_of_tables ht id (Table.canonical_write _ _ _ _) id id id id id)
theorem setSegment (h : s.Keeps t) (g : Seg) (v : Segment) : s.Keeps (t.setSegment g v) :=
  h.trans (of_ports rfl fun ht => canonical_of_tables ht id id id id (Table.canonical_write _ _ _ _) id id)
theorem setControl (h : s.Keeps t) (v : Control) : s.Keeps (t.setControl v) :=
  h.trans (of_same rfl rfl rfl rfl rfl rfl rfl rfl)
theorem setBudget (h : s.Keeps t) (v : Budget) : s.Keeps (t.setBudget v) :=
  h.trans (of_same rfl rfl rfl rfl rfl rfl rfl rfl)

/-- A port that keeps its buffers, and its queue within capacity. -/
theorem setPort (h : s.Keeps t) (p : Port) (v : PortState)
    (he : (t.port p).events.length ≤ eventCapacity p → v.events.length ≤ eventCapacity p)
    (hq : v.requests = (t.port p).requests) (ha : v.responses = (t.port p).responses) : s.Keeps (t.setPort p v) := by
  refine h.trans ⟨?tables, fun q => ?events, fun q => ?requests, fun q => ?responses⟩
  case tables => exact fun ht => canonical_of_tables ht id id id id id id id
  all_goals rw [State.setPort_port]; split
  case events.isTrue hqp => subst hqp; exact he
  case requests.isTrue hqp => subst hqp; exact hq
  case responses.isTrue hqp => subst hqp; exact ha
  case events.isFalse => exact id
  all_goals rfl

theorem pushEvent (h : s.Keeps t) (p : Port) (e : Event) (hr : t.hasRoom p = true) : s.Keeps (t.pushEvent p e) := by
  refine h.setPort p _ (fun _ => ?_) rfl rfl
  simp only [State.hasRoom, decide_eq_true_eq] at hr
  simpa using hr

theorem emit (h : s.Keeps t) (p : Port) (e : Event) : s.Keeps (t.emit p e) := by
  unfold State.emit
  split
  · exact h.pushEvent p e ‹_›
  · exact h.setPort p _ id rfl rfl

theorem emitToDie (h : s.Keeps t) (d : Nat) (e : Event) : s.Keeps (t.emitToDie d e) := by
  unfold State.emitToDie
  split
  · exact h.emit ..
  · exact h

theorem emitToCores (h : s.Keeps t) (e : Event) : s.Keeps (t.emitToCores e) := (h.emit ..).emit ..

theorem foldl {α : Type} {g : State → α → State} (h : s.Keeps t) (hg : ∀ u x, State.Keeps u (g u x)) (xs : List α) :
    s.Keeps (xs.foldl g t) := by
  induction xs generalizing t with
  | nil => exact h
  | cons x xs ih => exact ih (h.trans (hg t x))

/-! ### Segments and write points -/

theorem withQueues (h : s.Keeps t) (q : Queues) : s.Keeps { t with queues := q } :=
  h.trans (of_same rfl rfl rfl rfl rfl rfl rfl rfl)
theorem withWaitSupply (h : s.Keeps t) (l : List Nat) : s.Keeps { t with waitSupply := l } :=
  h.trans (of_same rfl rfl rfl rfl rfl rfl rfl rfl)
theorem withReports (h : s.Keeps t) (l : List Completion) : s.Keeps { t with reports := l } :=
  h.trans (of_same rfl rfl rfl rfl rfl rfl rfl rfl)
theorem enqueue (h : s.Keeps t) (pl : Place) (k : Nat) : s.Keeps (t.enqueue pl k) := h.withQueues _
theorem freeSlot (h : s.Keeps t) (k : Nat) : s.Keeps (t.freeSlot k) := (h.withQueues _).setSlot ..
theorem leaveSupply (h : s.Keeps t) (i : Nat) : s.Keeps (t.leaveSupply i) := h.withWaitSupply _
theorem reportSupplyLow (h : s.Keeps t) (d : Nat) : s.Keeps (t.reportSupplyLow d) := by
  unfold State.reportSupplyLow; dsimp only; split
  · exact (h.emitToDie ..).setDie ..
  · exact h
theorem clearSupplyLow (h : s.Keeps t) (d : Nat) : s.Keeps (t.clearSupplyLow d) := by
  unfold State.clearSupplyLow; dsimp only; split
  · exact h.setDie ..
  · exact h
theorem openPoint (h : s.Keeps t) (i d b : Nat) : s.Keeps (t.openPoint i d b) :=
  ((((h.setDie ..).setSegment ..).setStream ..).leaveSupply i).trans (of_same rfl rfl rfl rfl rfl rfl rfl rfl)
theorem allocate (h : s.Keeps t) {i : Nat} (ha : t.allocate i = some u) : s.Keeps u := by
  obtain ⟨d, b, rest, -, -, rfl⟩ := State.allocate_some ha
  exact (h.openPoint ..).reportSupplyLow ..
theorem joinSupply (h : s.Keeps t) (i : Nat) : s.Keeps (t.joinSupply i) := by
  unfold State.joinSupply; dsimp only; split
  · exact h.setStream ..
  · exact (h.withWaitSupply _).setStream ..
theorem joinSlotWait (h : s.Keeps t) (d i : Nat) : s.Keeps (t.joinSlotWait d i) := by
  unfold State.joinSlotWait; dsimp only; split
  · exact h
  · exact h.setDie ..
theorem leaveSlotWait (h : s.Keeps t) (d i : Nat) : s.Keeps (t.leaveSlotWait d i) := h.setDie ..
theorem leaveOwnSlotWait (h : s.Keeps t) (i : Nat) : s.Keeps (t.leaveOwnSlotWait i) := by
  unfold State.leaveOwnSlotWait; split
  · exact h.leaveSlotWait ..
  · exact h
theorem dropOpenPoint (h : s.Keeps t) (d : Nat) : s.Keeps (t.dropOpenPoint d) := h.setDie ..
theorem detach (h : s.Keeps t) (i : Nat) (g : Seg) : s.Keeps (t.detach i g) := h.setStream ..
theorem closeSegment (h : s.Keeps t) (g : Seg) (failure : Bool) : s.Keeps (t.closeSegment g failure) := by
  have count {u : State} (hu : s.Keeps u) : s.Keeps { u with closeSeq := u.closeSeq + 1 } :=
    hu.trans (of_same rfl rfl rfl rfl rfl rfl rfl rfl)
  have drop : s.Keeps (if (t.segment g).state = .opened then t.dropOpenPoint g.die else t) := by
    split
    · exact h.dropOpenPoint ..
    · exact h
  unfold State.closeSegment; dsimp only
  refine (emitToDie ?_ ..).emit ..
  split
  · exact ((count drop).setSegment ..).detach ..
  · exact (count drop).setSegment ..

/-! ### Batch assembly -/

theorem setSeal (h : s.Keeps t) (i : Nat) : s.Keeps (t.setSeal i) := h.setStream ..
theorem markPending (h : s.Keeps t) (i : Nat) : s.Keeps (t.markPending i) := by
  unfold State.markPending; split
  · exact h
  · exact h.setStream ..
theorem countBatch (h : s.Keeps t) (i : Nat) (g : Seg) (pad : Nat) : s.Keeps (t.countBatch i g pad) :=
  ((h.setSegment ..).setStream ..).setDie ..
theorem fillPoint (h : s.Keeps t) (i : Nat) (g : Seg) : s.Keeps (t.fillPoint i g) := by
  unfold State.fillPoint; split
  · exact ((h.setSegment ..).dropOpenPoint ..).setStream ..
  · exact h
theorem cutInto (h : s.Keeps t) (i : Nat) (g : Seg) (k : Nat) : s.Keeps (t.cutInto i g k) :=
  have placed := h.foldl (g := State.place) fun u _ => (refl u).setRecord ..
  (((((placed _).setSlot ..).enqueue ..).countBatch ..).fillPoint ..).setSeal ..
theorem cut (h : s.Keeps t) (i : Nat) (g : Seg) : s.Keeps (t.cut i g) := by
  unfold State.cut; split
  · exact h.cutInto ..
  · exact h
theorem testPass (h : s.Keeps t) (i : Nat) : s.Keeps (t.testPass i).1 := by
  unfold State.testPass; dsimp only; split
  · split
    · exact h.cut ..
    · exact h.joinSlotWait ..
  · split
    · exact h
    · split
      · exact h.allocate ‹_›
      · exact h.joinSupply ..
theorem testFor (h : s.Keeps t) (n i : Nat) : s.Keeps (State.testFor n t i) := by
  induction n generalizing t with
  | zero => exact h
  | succ n ih =>
    have pass := h.testPass i
    unfold State.testFor; split
    · split
      · next hp => rw [hp] at pass; exact ih pass
      · next hp => rw [hp] at pass; exact pass
    · exact h
theorem test (h : s.Keeps t) (i : Nat) : s.Keeps (t.test i) := h.testFor ..
theorem markAndTest (h : s.Keeps t) (i : Nat) : s.Keeps (t.markAndTest i) := by
  unfold State.markAndTest; split
  · exact h
  · exact (h.markPending i).test i
theorem slotArbiter (h : s.Keeps t) (d : Nat) : s.Keeps (t.slotArbiter d) := by
  unfold State.slotArbiter
  generalize (t.die d).slotWait.length = n
  induction n generalizing t with
  | zero => exact h
  | succ n ih =>
    unfold State.grantSlots; dsimp only; split
    · exact h
    · split
      · exact ih ((h.setDie ..).test _)
      · exact h
theorem supplyArbiter (h : s.Keeps t) (d : Nat) : s.Keeps (t.supplyArbiter d) := by
  unfold State.supplyArbiter
  generalize t.waitSupply.length = n
  induction n generalizing t with
  | zero => exact h
  | succ n ih =>
    unfold State.serveSupply; split
    · split
      · exact h
      · split
        · next ha => exact ih (((h.leaveSupply _).allocate ha).test _)
        · exact h
    · exact h

/-! ### Releases and completions -/

theorem openBudgetWait (h : s.Keeps t) (f : Nat) : s.Keeps (openBudgetWait t f) := by
  unfold Machine.openBudgetWait; split
  · split
    · exact (h.emit ..).setFunction ..
    · exact h
  · exact h
  · exact h
theorem openBudgetWaits (h : s.Keeps t) : s.Keeps t.openBudgetWaits := h.foldl (fun u f => (refl u).openBudgetWait f) _
theorem release (h : s.Keeps t) (f k : Nat) : s.Keeps (t.release f k) :=
  ((h.setFunction ..).setBudget ..).openBudgetWaits
theorem openReclaimBudgetWait (h : s.Keeps t) : s.Keeps t.openReclaimBudgetWait := by
  unfold State.openReclaimBudgetWait; split
  · split
    · exact (h.emit ..).setBudget ..
    · exact h
  · exact h
  · exact h
theorem releaseReclaim (h : s.Keeps t) (k : Nat) : s.Keeps (t.releaseReclaim k) := (h.setBudget _).openReclaimBudgetWait
theorem releaseStream (h : s.Keeps t) (i k : Nat) : s.Keeps (t.releaseStream i k) := by
  unfold State.releaseStream; split
  · exact h.release ..
  · exact h.releaseReclaim ..
theorem openRecordsWait (h : s.Keeps t) (f : Nat) : s.Keeps (openRecordsWait t f) := by
  unfold Machine.openRecordsWait; split
  · exact (h.emit ..).setFunction ..
  · exact h
  · exact h
theorem openTenantRecordsWaits (h : s.Keeps t) : s.Keeps t.openTenantRecordsWaits :=
  h.foldl (fun u f => (refl u).openRecordsWait f) _
theorem openReclaimRecordsWait (h : s.Keeps t) : s.Keeps t.openReclaimRecordsWait := by
  unfold State.openReclaimRecordsWait; split
  · exact (h.emit ..).setBudget ..
  · exact h
  · exact h
theorem returnPoint (h : s.Keeps t) (i : Nat) (g : Seg) : s.Keeps (t.returnPoint i g) := by
  have detached := (h.dropOpenPoint g.die).detach i g
  unfold State.returnPoint; dsimp only; split
  · exact (((detached.setDie ..).setSegment ..).clearSupplyLow ..).supplyArbiter ..
  · exact (detached.setSegment ..).emitToDie ..
theorem disposePoint (h : s.Keeps t) (i : Nat) : s.Keeps (t.disposePoint i) := by
  unfold State.disposePoint; split
  · exact h
  · split
    · exact h.returnPoint ..
    · exact h.closeSegment ..
theorem countClosed (h : s.Keeps t) (c : StreamClass) (f : Nat) : s.Keeps (t.countClosed c f) := by
  unfold State.countClosed; split
  · exact h.setFunction ..
  · exact h.trans (of_same rfl rfl rfl rfl rfl rfl rfl rfl)
theorem emitClosed (h : s.Keeps t) (i : Nat) (c : StreamClass) (r : Option Port) : s.Keeps (t.emitClosed i c r) := by
  have first : s.Keeps (match r with | some p => t.emit p (.streamClosed i) | none => t) := by
    split
    · exact h.emit ..
    · exact h
  unfold State.emitClosed; dsimp only; split
  · exact first.emit ..
  · exact first
theorem completeClose (h : s.Keeps t) (i : Nat) : s.Keeps (t.completeClose i) :=
  (((((h.leaveOwnSlotWait i).disposePoint i).leaveSupply i).setStream ..).countClosed ..).emitClosed ..
theorem closeTest (h : s.Keeps t) (i : Nat) : s.Keeps (t.closeTest i) := by
  unfold State.closeTest; split
  · exact h.completeClose i
  · exact h
theorem fenceTest (h : s.Keeps t) (f : Nat) : s.Keeps (t.fenceTest f) := by
  unfold State.fenceTest; dsimp only; split
  · split
    · exact (h.emit ..).setFunction ..
    · exact h
  · exact h
theorem freeRecord (h : s.Keeps t) (r : Nat) : s.Keeps (t.freeRecord r) := by
  have count {u : State} (hu : s.Keeps u) (a b : Nat) : s.Keeps { u with tenantInUse := a, reclaimInUse := b } :=
    hu.trans (of_same rfl rfl rfl rfl rfl rfl rfl rfl)
  have freed := h.setRecord r .powerOn
  unfold State.freeRecord; dsimp only
  refine closeTest ?_ _
  split
  · exact (((count freed _ _).setFunction ..).fenceTest _).openTenantRecordsWaits
  · exact (count freed _ _).openReclaimRecordsWait
theorem report (h : s.Keeps t) (c : Completion) (hr : t.hasRoom (t.reportPort c) = true) : s.Keeps (t.report c) := by
  have left := h.withReports (t.reports.erase c)
  unfold State.report; dsimp only; split
  · exact (left.pushEvent _ _ hr).freeRecord _
  · exact (left.pushEvent _ _ hr).setFunction ..
theorem placeReports (h : s.Keeps t) (p : Port) : s.Keeps (t.placeReports p) := by
  unfold State.placeReports
  generalize t.reports.length = n
  induction n generalizing t with
  | zero => exact h
  | succ n ih =>
    unfold State.placeFor; split
    · next hroom =>
      split
      · next c hc =>
        have here : t.reportPort c = p := by simpa using List.find?_some hc
        exact ih (h.report c (here ▸ hroom))
      · exact h
    · exact h
theorem addReport (h : s.Keeps t) (c : Completion) : s.Keeps (t.addReport c) :=
  (h.withReports _).placeReports _
theorem flushTest (h : s.Keeps t) (f : Nat) : s.Keeps (t.flushTest f) := by
  unfold State.flushTest; split
  · split
    · exact h
    · exact (h.setFunction ..).addReport _
  · exact h
  · exact h
theorem retireHead (h : s.Keeps t) (i r : Nat) : s.Keeps (t.retireHead i r) := ((h.setStream ..).setRecord ..).addReport _
theorem retireFor (h : s.Keeps t) (n i : Nat) : s.Keeps (State.retireFor n t i).1 := by
  induction n generalizing t with
  | zero => exact h
  | succ n ih =>
    unfold State.retireFor; split
    · exact h
    · split
      · exact ih (h.retireHead ..)
      · exact h
theorem afterRun (h : s.Keeps t) (c : StreamClass) (f n : Nat) : s.Keeps (t.afterRun c f n) := by
  unfold State.afterRun; split
  · exact h
  · split
    · exact h.flushTest ..
    · exact h
theorem retire (h : s.Keeps t) (i : Nat) : s.Keeps (t.retire i).1 := (h.retireFor ..).afterRun ..
theorem discardMarks (h : s.Keeps t) (i : Nat) (rs : List Nat) : s.Keeps (t.discardMarks i rs).1 := by
  have released (k : Nat) : s.Keeps ((rs.foldl State.markRecord t).releaseStream i k) :=
    (h.foldl (fun u r => (refl u).setRecord ..) rs).releaseStream i k
  unfold State.discardMarks; dsimp only; split
  · exact (released _).setStream ..
  · exact released _
theorem completeDrain (h : s.Keeps t) (n : Nat) : s.Keeps (t.completeDrain n) :=
  ((((h.emit ..).emit ..).emit ..).emit ..).setControl _
theorem drainTest (h : s.Keeps t) : s.Keeps t.drainTest := by
  unfold State.drainTest; split
  · exact h.completeDrain _
  · exact h

/-! ### Results and takeovers -/

theorem withdraw (h : s.Keeps t) (i d : Nat) (ks : List Nat) : s.Keeps (t.withdraw i d ks) :=
  ((h.foldl (fun u k => (refl u).freeSlot k) ks).setStream ..).setDie ..
theorem rewindTo (h : s.Keeps t) (i : Nat) (b : Batch) : s.Keeps (t.rewindTo i b) := by
  unfold State.rewindTo; split
  · exact h
  · unfold State.rewind; split
    · exact h
    · exact (h.setRecord ..).foldl (fun u r => (refl u).setRecord ..) _
theorem loseSegment (h : s.Keeps t) (i : Nat) (g : Seg) : s.Keeps (t.loseSegment i g) :=
  ((h.closeSegment ..).leaveSlotWait ..).setStream ..
theorem endFlight (h : s.Keeps t) (b : Batch) (k : Nat) : s.Keeps (t.endFlight b k) :=
  ((h.setStream ..).setDie ..).freeSlot k
theorem closeIfDone (h : s.Keeps t) (g : Seg) : s.Keeps (t.closeIfDone g) := by
  unfold State.closeIfDone; split
  · exact h.closeSegment ..
  · exact h
theorem advance (h : s.Keeps t) (b : Batch) : s.Keeps (t.advance b) := h.setSegment ..
theorem makeDurable (h : s.Keeps t) (e : Extent) : s.Keeps (t.makeDurable e) := h.setRecord ..
theorem done (h : s.Keeps t) (b : Batch) (k : Nat) : s.Keeps (t.done b k).1 := by
  have durable := (h.advance b).foldl (fun u e => (refl u).makeDurable e) b.extents
  have flown := ((durable.retire b.stream).releaseStream b.stream b.real).endFlight b k
  unfold State.done; dsimp only
  exact ((((flown.slotArbiter b.seg.die).closeIfDone b.seg).test b.stream).closeTest b.stream).drainTest
theorem emitHalted (h : s.Keeps t) (i : Nat) : s.Keeps (t.emitHalted i) := by
  unfold State.emitHalted; dsimp only; split
  · exact (h.emit ..).emitToCores _
  · exact (h.emit ..).emitToCores _
theorem halt (h : s.Keeps t) (i : Nat) : s.Keeps (t.halt i) :=
  ((((h.leaveOwnSlotWait i).leaveSupply i).setStream ..).setSeal i).emitHalted i
theorem countFailure (h : s.Keeps t) (i : Nat) : s.Keeps (t.countFailure i) := by
  unfold State.countFailure; dsimp only; split
  · exact ((h.setStream ..).setSeal i).test i
  · exact (h.setStream ..).halt i
theorem fail (h : s.Keeps t) (b : Batch) : s.Keeps (t.fail b) :=
  have lost := ((h.withdraw b.stream b.seg.die _).rewindTo b.stream b).loseSegment b.stream b.seg
  ((lost.slotArbiter b.seg.die).countFailure b.stream).drainTest
theorem failCore (h : s.Keeps t) (k : Core) : s.Keeps (t.failCore k) := by
  cases k <;> exact h.trans (of_same rfl rfl rfl rfl rfl rfl rfl rfl)
theorem takeoverStream (h : s.Keeps t) (i : Nat) : s.Keeps (t.takeoverStream i) := by
  unfold State.takeoverStream; split
  · exact h
  · split
    · exact h
    · exact (((h.withdraw ..).rewindTo ..).loseSegment ..).setSeal i
theorem movePlace (h : s.Keeps t) (pl : Place) (n : Nat) : s.Keeps (State.movePlace pl t n) := by
  unfold State.movePlace; split
  · exact h.setSlot ..
  · exact h
theorem moveQueue (h : s.Keeps t) (k : Core) (j : Option Core) : s.Keeps (t.moveQueue k j) :=
  (h.withQueues _).foldl (fun u n => (refl u).movePlace _ n) _
theorem takeover (h : s.Keeps t) (k : Core) : s.Keeps (t.takeover k) :=
  have dies := (h.failCore k).foldl (g := State.reassign (t.survivor k)) fun u _ => (refl u).setDie ..
  have moved := ((dies _).foldl (fun u i => (refl u).takeoverStream i) (t.streamsTakenBy k)).moveQueue k (t.survivor k)
  ((moved.emitToCores _).foldl (fun u d => (refl u).slotArbiter d) _).foldl (fun u i => (refl u).test i) _
theorem expireDeadline (h : s.Keeps t) (k : Nat) : s.Keeps (t.expireDeadline k) := by
  unfold State.expireDeadline; split
  · exact h
  · split
    · split
      · unfold State.expireBatch; split
        · exact (h.emitToCores _).setSlot ..
        · exact h.takeover _
      · exact h
    · exact h
    · exact h
theorem expireSeal (h : s.Keeps t) (i : Nat) : s.Keeps (t.expireSeal i) := by
  unfold State.expireSeal; split
  · split
    · exact (h.setStream ..).test i
    · exact h
  · exact h
  · exact h
theorem powerFails (h : s.Keeps t) : s.Keeps t.powerFails := by
  unfold State.powerFails; split
  · exact h.completeDrain 0
  · exact ((h.setControl _).foldl (fun u i => (refl u).markAndTest i) _).drainTest
  · exact h
  · exact h
theorem tryReport (h : s.Keeps t) (c : Completion) : s.Keeps (t.tryReport c) := by
  unfold State.tryReport; split
  · next hc =>
    simp only [State.reportReady, Bool.and_eq_true] at hc
    exact h.report c hc.1
  · exact h

end State.Keeps

end Sys2Proof.Machine
end

section
/-! What a command can do, said once: `requestAct` is the owner's act that a request row executes, `State.Served` lists
the states that the acts lead to, each with the checks that were passed, and `State.Moves` what each command does. -/

namespace Sys2Proof.Machine

/-- The owner's act of a request row; a command that is no request has none, and stands as one that refuses. -/
def requestAct : Instr → State → Reply
  | .submit v fn hint stream tag lba region offset n => submitAct v.port fn hint stream tag lba region offset n
  | .flushFunction _ fn tag => flushFunctionAct fn tag
  | .openStream v fn depth mask => openStreamAct v.port fn depth mask
  | .bind _ fn hint stream => bindAct fn hint stream
  | .unbind _ fn hint => unbindAct fn hint
  | .setStreamMode _ stream mode => setStreamModeAct stream mode
  | .closeStream v stream => closeStreamAct v.port stream
  | .resumeStream _ stream => resumeStreamAct stream
  | .discardStream _ stream => discardStreamAct stream
  | .setFunction _ fn enable reserve cap timeout => setFunctionAct fn enable reserve cap timeout
  | .fenceFunction v fn mode => fenceFunctionAct v.port fn mode
  | .unfenceFunction _ fn => unfenceFunctionAct fn
  | .supply v entries => supplyAct v.port entries
  | .takeBatch v => takeBatchAct v.port
  | .takeBatchRepeat v slot gen => takeBatchRepeatAct v.port slot gen
  | .batchResultDone v slot gen => batchResultDoneAct v.port slot gen
  | .batchResultFailed v slot gen result => batchResultFailedAct v.port slot gen result
  | .invalidate _ entries => invalidateAct entries
  | .nominate _ scope policy filter count => nominateAct scope policy filter count
  | .returnSegment _ g => returnSegmentAct g
  | .releaseSegment _ g => releaseSegmentAct g
  | .retireSegment _ g => retireSegmentAct g
  | .setGeometry _ dies blocks units sectors => setGeometryAct dies blocks units sectors
  | .lockGeometry _ => lockGeometryAct
  | .setLimits _ selector value => setLimitsAct selector value
  | .setDieMap _ cores => setDieMapAct cores
  | .loadSegment _ entries => loadSegmentAct entries
  | .start _ => startAct
  | .restart _ => restartAct
  | .queryStream _ stream => queryStreamAct stream
  | .queryFunction _ fn => queryFunctionAct fn
  | .querySegment _ g => querySegmentAct g
  | .queryDie _ die => queryDieAct die
  | .queryDevice _ => queryDeviceAct
  | .collect v count => collectAct v.port count
  | .setNotice v mode => setNoticeAct v.port mode
  | .requestFrameArrival _ _ | .invalidFrame _ _ | .responseRead _ _ | .portReset _ | .powerOnReset
  | .powerFailAssertion | .powerFailDeassertion | .msTick | .sealExpiry _ | .batchDeadlineExpiry _
  | .fragmentDone _ | .flushDone _ | .streamClosed _ | .fenceComplete _ | .drainComplete
  | .dieSlotGrant _ | .waitSupplyServe _ | .noticePulseEnd _ => fun s => s.refuse .unknown

/-- A request row is the execution step of that request with its owner's act. -/
theorem exec_of_isRequest {i : Instr} (h : i.isRequest = true) (s : State) : exec i s = .next (requestStep i (requestAct i) s) := by
  cases i with
  | requestFrameArrival | invalidFrame | responseRead | portReset | powerOnReset | powerFailAssertion
  | powerFailDeassertion | msTick | sealExpiry | batchDeadlineExpiry | fragmentDone | flushDone | streamClosed
  | fenceComplete | drainComplete | dieSlotGrant | waitSupplyServe | noticePulseEnd => cases h
  | _ => rfl

/-- The states that the execution of a request in state s can lead to. -/
inductive State.Served (s : State) : State → Prop
  | same : Served s s
  | wait (f : Nat) (w : Wait) : Served s (s.setWait f w)
  | reclaimWait (w : Wait) : Served s (s.setReclaimWait w)
  | violation (f : Nat) : Served s (s.countViolation f)
  | admitTenant (f i r : Nat) (w : Write) (hd : s.device = .run) (hf : (s.function f).state = .enabled)
      (hr : s.recordFor .tenant = some r) (hb : s.budgetTest f w.n = true) : Served s (s.admitTenant f i r w)
  | admitReclaim (i r : Nat) (w : Write) (hd : s.device = .run) (hr : s.recordFor .reclaim = some r)
      (hb : s.reclaimTest w.n = true) : Served s (s.admitReclaim i r w)
  | flush (f : Nat) (tag : Word) : Served s (s.startFlush f tag)
  | openStream (i : Nat) (v : Stream) (cls : StreamClass) (owner : Nat) :
      Served s ((s.setStream i v).countOpened cls owner)
  | bind (f k i : Nat) : Served s (s.bindTo f k i)
  | unbind (f k : Nat) : Served s (s.unbind f k)
  | intake (i : Nat) (v : Stream) : Served s (s.setStream i v)
  | close (i : Nat) (p : Port) : Served s (s.startClose i p)
  | resume (i : Nat) : Served s (s.resume i)
  | discard (i : Nat) : Served s (s.discard i).1
  | settings (f : Nat) (en : Bool) (r c t : Nat) : Served s (s.applySettings f en r c t)
  | fence (f : Nat) (m : FenceMode) (p : Port) (hf : (s.function f).state = .enabled) : Served s (s.startFence f m p)
  | unfence (f : Nat) (hf : (s.function f).state = .fenced) :
      Served s (s.setFunction f { s.function f with state := .enabled })
  | supply (p : Port) (es : List SegmentName) : Served s (State.supplyEntries p es s).2
  | take (c : Core) (n : Nat) (b : Batch) (deadline : Word) : Served s (s.take c n b deadline)
  | done (b : Batch) (k : Nat) : Served s (s.done b k).1
  | fail (b : Batch) : Served s (s.fail b)
  | invalidate (es : List StaleEntry) : Served s (State.invalidateEntries es s).2
  | victims (ns : List Nominee) : Served s (ns.foldl State.makeVictim s)
  | segment (g : Seg) (v : Segment) : Served s (s.setSegment g v)
  | release (g : Seg) (v : Segment) (d : Nat) (e : Event) : Served s ((s.setSegment g v).emitToDie d e)
  | geometry (g : Geometry) (hl : s.control.locked = false) : Served s (s.applyGeometry g)
  | lock : Served s (s.setControl { s.control with locked := true })
  | limit (name : LimitName) (value : Nat) (ha : name.admits value = true)
      (hc : name.configOnly = true → s.device = .config) :
      Served s (s.setControl { s.control with limits := s.limits.store name (s.limits.stored name value) })
  | dieMap (cores : List Byte) : Served s ((List.range Config.dies).foldl (State.assignDie cores) s)
  | load (es : List LoadEntry) : Served s (State.loadEntries es s).2
  | start (hd : s.device = .config) : Served s (s.setControl { s.control with device := .run })
  | restart (hd : s.device = .config ∨ s.device = .run) : Served s s.restart
  | collect (p : Port) (n : Nat) : Served s ((s.takeEvents p n).placeReports p)
  | notice (p : Port) (m : NoticeMode) : Served s (s.setNoticeMode p m)

/-! ### The device-state checks refuse or pass -/

section
variable {s : State} {k : Reply}

theorem State.whileRun_served (h : s.device = .run → s.Served k.next) : s.Served (s.whileRun k).next := by
  unfold State.whileRun; split
  case h_2 hd => exact h hd
  all_goals exact .same

theorem State.whileRunOrDrain_served (h : s.Served k.next) : s.Served (s.whileRunOrDrain k).next := by
  unfold State.whileRunOrDrain; split
  case h_2 | h_3 => exact h
  all_goals exact .same

theorem State.beforeDrain_served (h : s.device = .config ∨ s.device = .run → s.Served k.next) :
    s.Served (s.beforeDrain k).next := by
  unfold State.beforeDrain; split
  case h_1 hd => exact h (.inl hd)
  case h_2 hd => exact h (.inr hd)
  all_goals exact .same

theorem State.untilDrained_served (h : s.Served k.next) : s.Served (s.untilDrained k).next := by
  unfold State.untilDrained; split
  case h_4 => exact .same
  all_goals exact h

theorem State.whileConfig_served (h : s.device = .config → s.Served k.next) : s.Served (s.whileConfig k).next := by
  unfold State.whileConfig; split
  case h_1 hd => exact h hd
  all_goals exact .same
end

/-! ### The owners' acts -/

section
variable (s : State)

theorem State.submitTenant_served (f k : Nat) (w : Write) (hd : s.device = .run) :
    s.Served (s.submitTenant f k w).next := by
  unfold State.submitTenant; split
  · exact .same
  · exact .violation f
  · next hf =>
    split
    · exact .same
    · split
      · exact .same
      · unfold State.submitTo; split
        · exact .wait ..
        · next hr =>
          split
          · exact .admitTenant _ _ _ _ hd hf hr ‹_›
          · exact .wait ..

theorem State.submitReclaim_served (i : Nat) (w : Write) (hd : s.device = .run) :
    s.Served (s.submitReclaim i w).next := by
  unfold State.submitReclaim; split
  · exact .same
  · split
    · exact .same
    · unfold State.submitReclaimTo; split
      · exact .reclaimWait _
      · next hr =>
        split
        · exact .admitReclaim _ _ _ hd hr ‹_›
        · exact .reclaimWait _

theorem submitAct_served (p : Port) (fn hint : Byte) (stream : Half) (tag : Word) (lba : Lba) (region : Byte)
    (offset : Word) (n : Byte) : s.Served (submitAct p fn hint stream tag lba region offset n s).next := by
  refine State.whileRun_served fun hd => ?_
  split
  · exact .same
  · dsimp only; split
    · exact s.submitReclaim_served _ _ hd
    · exact s.submitTenant_served _ _ _ hd

theorem flushFunctionAct_served (fn : Half) (tag : Word) : s.Served (flushFunctionAct fn tag s).next := by
  refine State.whileRun_served fun _ => ?_
  dsimp only; split
  · exact .same
  · split
    · exact .same
    · split
      · exact .same
      · exact .flush ..

theorem openStreamAct_served (p : Port) (fn depth : Byte) (mask : DieMask) :
    s.Served (openStreamAct p fn depth mask s).next := by
  refine State.whileRun_served fun _ => ?_
  dsimp only; split
  · exact .same
  · split
    · exact .same
    · split
      · exact .same
      · exact .openStream ..

theorem bindAct_served (fn hint : Byte) (stream : Half) : s.Served (bindAct fn hint stream s).next := by
  refine State.whileRun_served fun _ => ?_
  dsimp only; split
  · exact .same
  · split
    · exact .same
    · exact .bind ..

theorem unbindAct_served (fn hint : Byte) : s.Served (unbindAct fn hint s).next := by
  refine State.whileRunOrDrain_served ?_
  split
  · exact .same
  · exact .unbind ..

theorem setStreamModeAct_served (stream : Half) (mode : Byte) : s.Served (setStreamModeAct stream mode s).next := by
  refine State.whileRunOrDrain_served ?_
  dsimp only; split
  · exact .same
  · split
    · exact .same
    · split
      · exact .same
      · exact .intake ..

theorem closeStreamAct_served (p : Port) (stream : Half) : s.Served (closeStreamAct p stream s).next := by
  refine State.whileRunOrDrain_served ?_
  dsimp only; split
  · exact .same
  · split
    · exact .same
    · dsimp only; exact .close ..

theorem State.whileHalted_served {k : Reply} (stream : Half) (h : s.Served k.next) :
    s.Served (s.whileHalted stream k).next := by
  refine State.whileRunOrDrain_served ?_
  split
  · exact .same
  · split
    · exact .same
    · exact h

theorem resumeStreamAct_served (stream : Half) : s.Served (resumeStreamAct stream s).next := by
  refine s.whileHalted_served stream ?_
  dsimp only; exact .resume _

theorem discardStreamAct_served (stream : Half) : s.Served (discardStreamAct stream s).next := by
  refine s.whileHalted_served stream ?_
  dsimp only; exact .discard _

theorem setFunctionAct_served (fn enable : Byte) (reserve cap timeout : Half) :
    s.Served (setFunctionAct fn enable reserve cap timeout s).next := by
  refine State.beforeDrain_served fun _ => ?_
  dsimp only; split
  · exact .same
  · split
    · exact .same
    · split
      · exact .same
      · split
        · exact .same
        · exact .settings ..

theorem fenceFunctionAct_served (p : Port) (fn : Half) (mode : Byte) : s.Served (fenceFunctionAct p fn mode s).next := by
  refine State.whileRun_served fun _ => ?_
  dsimp only; split
  · exact .same
  · split
    · exact .same
    · split
      · exact .same
      · next hf => exact .fence _ _ _ (not_not.mp hf)

theorem unfenceFunctionAct_served (fn : Half) : s.Served (unfenceFunctionAct fn s).next := by
  refine State.whileRun_served fun _ => ?_
  dsimp only; split
  · exact .same
  · split
    · exact .same
    · next hf => exact .unfence _ (by simp at hf; exact hf.1)

theorem supplyAct_served (p : Port) (es : List SegmentName) : s.Served (supplyAct p es s).next := by
  refine State.untilDrained_served ?_
  split
  · exact .same
  · split
    · exact .same
    · exact .supply ..

theorem takeBatchAct_served (p : Port) : s.Served (takeBatchAct p s).next := by
  refine State.whileRunOrDrain_served ?_
  split
  · unfold State.takeNext; split
    · exact .same
    · split
      · exact .same
      · exact .take ..
  · exact .same

theorem takeBatchRepeatAct_served (p : Port) (slot : Half) (gen : Byte) :
    s.Served (takeBatchRepeatAct p slot gen s).next := by
  refine State.whileRunOrDrain_served ?_
  split
  · exact .same
  · split <;> exact .same

theorem State.onResult_served (p : Port) (slot : Half) (gen result : Byte) (k : Batch → Reply)
    (h : ∀ b, s.Served (k b).next) : s.Served (s.onResult p slot gen result k).next := by
  refine State.whileRunOrDrain_served ?_
  split
  · exact .same
  · split
    · exact .same
    · split
      · exact h _
      · exact .same

theorem batchResultDoneAct_served (p : Port) (slot : Half) (gen : Byte) :
    s.Served (batchResultDoneAct p slot gen s).next := by
  refine s.onResult_served _ _ _ _ _ fun b => ?_
  dsimp only; exact .done b _

theorem batchResultFailedAct_served (p : Port) (slot : Half) (gen result : Byte) :
    s.Served (batchResultFailedAct p slot gen result s).next := by
  refine s.onResult_served _ _ _ _ _ fun b => ?_
  dsimp only; exact .fail b

theorem invalidateAct_served (es : List StaleEntry) : s.Served (invalidateAct es s).next := by
  refine State.whileRunOrDrain_served ?_
  split
  · exact .same
  · exact .invalidate ..

theorem nominateAct_served (scope policy filter count : Byte) : s.Served (nominateAct scope policy filter count s).next := by
  refine State.whileRun_served fun _ => ?_
  split
  · split
    · exact .same
    · exact .victims _
  · exact .same
  · exact .same

theorem State.onSegment_served (g : SegmentName) (k : Seg → Reply) (h : ∀ x, s.Served (k x).next) :
    s.Served (s.onSegment g k).next := by
  refine State.whileRunOrDrain_served ?_
  split
  · exact h _
  · exact .same

theorem returnSegmentAct_served (g : SegmentName) : s.Served (returnSegmentAct g s).next := by
  refine s.onSegment_served g _ fun x => ?_
  split
  · exact .segment ..
  · exact .same

theorem releaseSegmentAct_served (g : SegmentName) : s.Served (releaseSegmentAct g s).next := by
  refine s.onSegment_served g _ fun x => ?_
  dsimp only; split
  · exact .same
  · split
    · exact .same
    · exact .release ..

theorem retireSegmentAct_served (g : SegmentName) : s.Served (retireSegmentAct g s).next := by
  refine s.onSegment_served g _ fun x => ?_
  dsimp only; split
  case h_5 | h_6 | h_7 => exact .segment ..
  all_goals exact .same

theorem setGeometryAct_served (dies : Byte) (blocks units : Half) (sectors : Byte) :
    s.Served (setGeometryAct dies blocks units sectors s).next := by
  refine State.whileConfig_served fun _ => ?_
  dsimp only; split
  · exact .same
  · next hl =>
    split
    · exact .same
    · dsimp only; exact .geometry _ (Bool.eq_false_iff.mpr hl)

theorem lockGeometryAct_served : s.Served (lockGeometryAct s).next := by
  refine State.whileConfig_served fun _ => ?_
  split
  · exact .same
  · exact .lock

theorem setLimitsAct_served (selector : Byte) (value : Half) : s.Served (setLimitsAct selector value s).next := by
  refine State.beforeDrain_served fun hd => ?_
  split
  · exact .same
  · next name _ =>
    split
    · exact .same
    · next ha =>
      split
      · exact .same
      · next hc =>
        split
        · exact .same
        · refine .limit name _ (by simpa using ha) fun hn => hd.resolve_right fun hrun => hc ?_
          simp [hn, hrun]

theorem setDieMapAct_served (cores : List Byte) : s.Served (setDieMapAct cores s).next := by
  refine State.whileConfig_served fun _ => ?_
  split
  · exact .same
  · split
    · exact .same
    · exact .dieMap _

theorem loadSegmentAct_served (es : List LoadEntry) : s.Served (loadSegmentAct es s).next := by
  refine State.whileConfig_served fun _ => ?_
  split
  · exact .same
  · split
    · exact .same
    · exact .load _

theorem startAct_served : s.Served (startAct s).next := by
  refine State.whileConfig_served fun hd => ?_
  split
  · exact .same
  · exact .start hd

theorem queryStreamAct_served (stream : Half) : s.Served (queryStreamAct stream s).next := by
  unfold queryStreamAct; split <;> exact .same

theorem queryFunctionAct_served (fn : Half) : s.Served (queryFunctionAct fn s).next := by
  unfold queryFunctionAct; split
  · exact .same
  · split <;> exact .same

theorem querySegmentAct_served (g : SegmentName) : s.Served (querySegmentAct g s).next := by
  unfold querySegmentAct; split
  · exact .same
  · split <;> exact .same

theorem queryDieAct_served (die : Byte) : s.Served (queryDieAct die s).next := by
  unfold queryDieAct; split
  · exact .same
  · split <;> exact .same

theorem collectAct_served (p : Port) (count : Byte) : s.Served (collectAct p count s).next := by
  unfold collectAct; dsimp only; split
  · exact .same
  · exact .collect ..

theorem setNoticeAct_served (p : Port) (mode : Byte) : s.Served (setNoticeAct p mode s).next := by
  refine State.untilDrained_served ?_
  split
  · exact .same
  · exact .notice ..

/-- Every act leads to a state of the list. -/
theorem requestAct_served (i : Instr) : s.Served (requestAct i s).next := by
  cases i with
  | submit => exact submitAct_served ..
  | flushFunction => exact flushFunctionAct_served ..
  | openStream => exact openStreamAct_served ..
  | bind => exact bindAct_served ..
  | unbind => exact unbindAct_served ..
  | setStreamMode => exact setStreamModeAct_served ..
  | closeStream => exact closeStreamAct_served ..
  | resumeStream => exact resumeStreamAct_served ..
  | discardStream => exact discardStreamAct_served ..
  | setFunction => exact setFunctionAct_served ..
  | fenceFunction => exact fenceFunctionAct_served ..
  | unfenceFunction => exact unfenceFunctionAct_served ..
  | supply => exact supplyAct_served ..
  | takeBatch => exact takeBatchAct_served ..
  | takeBatchRepeat => exact takeBatchRepeatAct_served ..
  | batchResultDone => exact batchResultDoneAct_served ..
  | batchResultFailed => exact batchResultFailedAct_served ..
  | invalidate => exact invalidateAct_served ..
  | nominate => exact nominateAct_served ..
  | returnSegment => exact returnSegmentAct_served ..
  | releaseSegment => exact releaseSegmentAct_served ..
  | retireSegment => exact retireSegmentAct_served ..
  | setGeometry => exact setGeometryAct_served ..
  | lockGeometry => exact lockGeometryAct_served ..
  | setLimits => exact setLimitsAct_served ..
  | setDieMap => exact setDieMapAct_served ..
  | loadSegment => exact loadSegmentAct_served ..
  | start => exact startAct_served ..
  | restart => exact State.beforeDrain_served .restart
  | queryStream => exact queryStreamAct_served ..
  | queryFunction => exact queryFunctionAct_served ..
  | querySegment => exact querySegmentAct_served ..
  | queryDie => exact queryDieAct_served ..
  | queryDevice => exact .same
  | collect => exact collectAct_served ..
  | setNotice => exact setNoticeAct_served ..
  | requestFrameArrival | invalidFrame | responseRead | portReset | powerOnReset | powerFailAssertion
  | powerFailDeassertion | msTick | sealExpiry | batchDeadlineExpiry | fragmentDone | flushDone | streamClosed
  | fenceComplete | drainComplete | dieSlotGrant | waitSupplyServe | noticePulseEnd => exact .same

end

/-! ### Every command -/

/-- The states that an expiry, a completion or an arbiter leads to. -/
inductive State.Continues (s : State) : State → Prop
  | sealing (i : Nat) : Continues s (s.expireSeal i)
  | deadline (k : Nat) : Continues s (s.expireDeadline k)
  | report (c : Completion) : Continues s (s.tryReport c)
  | close (i : Nat) : Continues s (s.closeTest i)
  | fence (f : Nat) : Continues s (s.fenceTest f)
  | drain : Continues s s.drainTest
  | slots (d : Nat) : Continues s (s.slotArbiter d)
  | supply (d : Nat) : Continues s (s.supplyArbiter d)

/-- The state that a command leads to. -/
inductive State.Moves (s : State) : Instr → State → Prop
  | request (c : Instr) (hc : c.isRequest = true) : Moves s c (requestStep c (requestAct c) s)
  | arrival (p : Port) (frame : List Byte) : Moves s (.requestFrameArrival p frame) (s.arrive p frame)
  | invalid (p : Port) (frame : List Byte) : Moves s (.invalidFrame p frame) (settle s (refusalTurn p frame s))
  | read (p : Port) (n : Nat) : Moves s (.responseRead p n) (s.readResponse p n)
  | portReset (p : Port) : Moves s (.portReset p) (s.resetPort p)
  | pulseEnd (p : Port) : Moves s (.noticePulseEnd p) (s.setPort p { s.port p with pulse := false })
  | reset : Moves s .powerOnReset (if s.control.powerFail then s.powerOnReset.completeDrain 0 else s.powerOnReset)
  | assertion : Moves s .powerFailAssertion (if s.control.powerFail then s else settle s (s.setPowerFail true).powerFails)
  | deassertion : Moves s .powerFailDeassertion (s.setPowerFail false)
  | tick : Moves s .msTick (s.setControl { s.control with tick := s.control.tick + 1 })
  | continues (c : Instr) (u : State) (hu : s.Continues u) : Moves s c (settle s u)

theorem exec_moves (c : Instr) (s : State) : ∃ t, exec c s = .next t ∧ s.Moves c t := by
  by_cases hc : c.isRequest = true
  · exact ⟨_, exec_of_isRequest hc s, .request c hc⟩
  · cases c with
    | requestFrameArrival p frame => exact ⟨_, rfl, .arrival p frame⟩
    | invalidFrame p frame => exact ⟨_, rfl, .invalid p frame⟩
    | responseRead p n => exact ⟨_, rfl, .read p n⟩
    | portReset p => exact ⟨_, rfl, .portReset p⟩
    | noticePulseEnd p => exact ⟨_, rfl, .pulseEnd p⟩
    | powerOnReset => exact ⟨_, rfl, .reset⟩
    | powerFailAssertion => exact ⟨_, rfl, .assertion⟩
    | powerFailDeassertion => exact ⟨_, rfl, .deassertion⟩
    | msTick => exact ⟨_, rfl, .tick⟩
    | sealExpiry i => exact ⟨_, rfl, .continues _ _ (.sealing i)⟩
    | batchDeadlineExpiry k => exact ⟨_, rfl, .continues _ _ (.deadline k)⟩
    | fragmentDone r => exact ⟨_, rfl, .continues _ _ (.report (.fragment r))⟩
    | flushDone f => exact ⟨_, rfl, .continues _ _ (.report (.flush f))⟩
    | streamClosed i => exact ⟨_, rfl, .continues _ _ (.close i)⟩
    | fenceComplete f => exact ⟨_, rfl, .continues _ _ (.fence f)⟩
    | drainComplete => exact ⟨_, rfl, .continues _ _ .drain⟩
    | dieSlotGrant d => exact ⟨_, rfl, .continues _ _ (.slots d)⟩
    | waitSupplyServe d => exact ⟨_, rfl, .continues _ _ (.supply d)⟩
    | _ => exact absurd rfl hc

/-- What a command leads to is one of the states of the list. -/
theorem State.moves_of_exec {c : Instr} {s t : State} (h : exec c s = .next t) : s.Moves c t := by
  obtain ⟨u, hu, moves⟩ := exec_moves c s
  cases hu.symm.trans h
  exact moves

end Sys2Proof.Machine
end

section
/-! The settlement of O3 and O4, from what the operations keep, and of O8 to O10, from what they leave alone: first what
a request keeps (`State.Served`), then what its turn on the port adds, then the commands that are no request. -/

namespace Sys2Proof.Machine

/-! ### What an accepted request keeps -/

namespace State.Keeps

variable {s t : State}

theorem withOpenReclaim (h : s.Keeps t) (n : Nat) : s.Keeps { t with openReclaim := n } :=
  h.trans (of_same rfl rfl rfl rfl rfl rfl rfl rfl)
theorem withUse (h : s.Keeps t) (a b : Nat) : s.Keeps { t with tenantInUse := a, reclaimInUse := b } :=
  h.trans (of_same rfl rfl rfl rfl rfl rfl rfl rfl)

theorem chainRecord (h : s.Keeps t) (i r : Nat) (rec : Fragment) : s.Keeps (t.chainRecord i r rec) := by
  unfold State.chainRecord; dsimp only; split
  · exact ((h.withUse _ _).setRecord ..).setStream ..
  · exact ((h.withUse _ _).setRecord ..).setStream ..
theorem joinChain (h : s.Keeps t) (i r : Nat) (rec : Fragment) : s.Keeps (t.joinChain i r rec) := by
  unfold State.joinChain; dsimp only
  refine test ?_ i
  split
  · exact (h.chainRecord ..).setSeal i
  · exact h.chainRecord ..
theorem pressureSeal (h : s.Keeps t) : s.Keeps t.pressureSeal := by
  unfold State.pressureSeal; split
  · split
    · exact h.markAndTest _
    · exact h
  · exact h
theorem admitTenant (h : s.Keeps t) (f i r : Nat) (w : Write) : s.Keeps (t.admitTenant f i r w) :=
  (((h.setBudget _).setFunction ..).joinChain ..).pressureSeal
theorem startFlush (h : s.Keeps t) (f : Nat) (tag : Word) : s.Keeps (t.startFlush f tag) :=
  ((h.setFunction ..).foldl (fun u i => (refl u).markAndTest i) _).flushTest f
theorem unbind (h : s.Keeps t) (f k : Nat) : s.Keeps (t.unbind f k) := by
  unfold State.unbind; split
  · exact (h.setStream ..).setBinding ..
  · exact h
theorem bindTo (h : s.Keeps t) (f k i : Nat) : s.Keeps (t.bindTo f k i) := by
  unfold State.bindTo; split
  · exact h
  · exact ((h.unbind f k).setStream ..).setBinding ..
theorem unbindFrom (h : s.Keeps t) (i f k : Nat) : s.Keeps (State.unbindFrom i f t k) := by
  unfold State.unbindFrom; split
  · exact h.setBinding ..
  · exact h
theorem startClose (h : s.Keeps t) (i : Nat) (p : Port) : s.Keeps (t.startClose i p) :=
  (((h.foldl (fun u k => (refl u).unbindFrom i _ k) _).setStream ..).markAndTest i).closeTest i
theorem resume (h : s.Keeps t) (i : Nat) : s.Keeps (t.resume i) := ((h.setStream ..).setSeal i).test i
theorem discard (h : s.Keeps t) (i : Nat) : s.Keeps (t.discard i).1 := by
  have idle := ((h.discardMarks i (t.stream i).chain).retire i).setStream i
  unfold State.discard; dsimp only
  exact (((idle _).setStream ..).test i).drainTest
theorem fenceDiscard (h : s.Keeps t) (i : Nat) : s.Keeps (t.fenceDiscard i) := by
  refine retire ?_ i
  unfold State.leaveSupplyIdle; split
  · exact ((h.discardMarks i _).leaveSupply i).setStream ..
  · exact h.discardMarks i _
theorem startFence (h : s.Keeps t) (f : Nat) (m : FenceMode) (p : Port) : s.Keeps (t.startFence f m p) := by
  have fenced : s.Keeps (t.fence f m p) := h.setFunction ..
  unfold State.startFence; dsimp only
  refine fenceTest ?_ f
  cases m
  · exact fenced.foldl (fun u i => (refl u).fenceDiscard i) _
  · exact fenced.foldl (fun u i => (refl u).markAndTest i) _
theorem supplyEntry (h : s.Keeps t) (g : Seg) : s.Keeps (t.supplyEntry g) :=
  (((h.setSegment ..).setDie ..).clearSupplyLow g.die).supplyArbiter g.die
theorem supplyEntries (h : s.Keeps t) (p : Port) (es : List SegmentName) : s.Keeps (State.supplyEntries p es t).2 := by
  induction es generalizing t with
  | nil => exact h
  | cons e es ih =>
    unfold State.supplyEntries; split
    · exact ih h
    · exact ih (h.supplyEntry _)
theorem loadEntry (h : s.Keeps t) (e : LoadEntry) : s.Keeps (t.loadEntry e).2 := by
  unfold State.loadEntry; split
  · unfold State.loadWritten; split
    · exact h
    · split
      · exact h
      · split
        · exact h
        · exact h.setSegment ..
  · split
    · unfold State.loadRetired; split
      · exact h
      · split
        case h_1 => exact h.setSegment ..
        all_goals exact h
    · exact h
theorem loadEntries (h : s.Keeps t) (es : List LoadEntry) : s.Keeps (State.loadEntries es t).2 := by
  induction es generalizing t with
  | nil => exact h
  | cons e es ih => exact ih (h.loadEntry e)
theorem invalidateEntries (h : s.Keeps t) (es : List StaleEntry) : s.Keeps (State.invalidateEntries es t).2 := by
  induction es generalizing t with
  | nil => exact h
  | cons e es ih => exact ih (h.setSegment ..)
theorem applyGeometry (h : s.Keeps t) (g : Geometry) : s.Keeps (t.applyGeometry g) := by
  refine (h.setControl _).foldl (fun u d => ?_) _
  unfold State.dropCore; split
  · exact (refl u).setDie ..
  · exact refl u
theorem collect (h : s.Keeps t) (p : Port) (n : Nat) : s.Keeps ((t.takeEvents p n).placeReports p) := by
  have taken : s.Keeps (t.takeEvents p n) := by
    refine h.setPort p _ (fun he => ?_) rfl rfl
    simp only [List.length_drop]
    omega
  exact taken.placeReports p
theorem setNoticeMode (h : s.Keeps t) (p : Port) (m : NoticeMode) : s.Keeps (t.setNoticeMode p m) := by
  unfold State.setNoticeMode; split
  · exact h
  · exact h.setPort p _ id rfl rfl
theorem restart (s : State) : s.Keeps s.restart where
  tables hs := by
    rw [State.canonical_iff] at hs ⊢
    obtain ⟨hf, -, -, -, hg, hd, hk⟩ := hs
    exact ⟨Table.canonical_mapEntries _ _ _ hf, rfl, rfl, rfl, Table.canonical_mapEntries _ _ _ hg,
      Table.canonical_mapEntries _ _ _ hd, Table.canonical_mapEntries _ _ _ hk⟩
  events p _ := by cases p <;> exact Nat.zero_le _
  requests p := by cases p <;> rfl
  responses p := by cases p <;> rfl

end State.Keeps

theorem State.Served.keeps {s t : State} (h : s.Served t) : s.Keeps t := by
  have refl := Keeps.refl s
  cases h with
  | same => exact refl
  | wait | violation | unfence => exact refl.setFunction ..
  | reclaimWait => exact refl.setBudget _
  | admitTenant => exact refl.admitTenant ..
  | admitReclaim => exact (refl.setBudget _).joinChain ..
  | flush => exact refl.startFlush ..
  | openStream i v cls owner =>
    cases cls
    · exact (refl.setStream i v).setFunction ..
    · exact (refl.setStream i v).withOpenReclaim _
  | bind => exact refl.bindTo ..
  | unbind => exact refl.unbind ..
  | intake => exact refl.setStream ..
  | close => exact refl.startClose ..
  | resume => exact refl.resume _
  | discard => exact refl.discard _
  | settings => exact ((refl.setFunction ..).setBudget _).openBudgetWaits
  | fence => exact refl.startFence ..
  | supply => exact refl.supplyEntries ..
  | take => exact (refl.withQueues _).setSlot ..
  | done => exact refl.done ..
  | fail => exact refl.fail _
  | invalidate => exact refl.invalidateEntries _
  | victims => exact refl.foldl (fun u n => (Keeps.refl u).setSegment ..) _
  | segment => exact refl.setSegment ..
  | release => exact (refl.setSegment ..).emitToDie ..
  | geometry => exact refl.applyGeometry _
  | lock | limit | start => exact refl.setControl _
  | dieMap => exact refl.foldl (fun u d => (Keeps.refl u).setDie ..) _
  | load => exact refl.loadEntries _
  | restart => exact Keeps.restart s
  | collect => exact refl.collect ..
  | notice => exact refl.setNoticeMode ..

/-! ### The turn on the port and the end of the step -/

theorem State.Keeps.settle (s t : State) : t.Keeps (settle s t) := by
  have one (p : Port) (u : State) : u.Keeps (settlePort s p u) := by
    rcases settlePort_eq s p u with h | h <;> rw [h]
    exact (refl u).setPort p _ id rfl rfl
  exact (((one .fp t).trans (one .mp0 _)).trans (one .mp1 _)).trans (one .rp _)

/-- What holds of a state after a turn: nothing was executed, or `run` was, with a response buffer free and, if a request
was waiting, one request buffer emptied. -/
theorem takeTurn_induction {P : State → Prop} {p : Port} {frame : List Byte} {isThis : List Byte → Bool}
    {run : State → State} {s : State} (hs : P s) (harrive : P (s.arrive p frame)) (hlink : P (s.setLink p .taken))
    (hdrop : P (s.dropRequest p))
    (hrun : ∀ u, P u → u.canRespond p = true → (u.port p).requests.length ≤ (s.port p).requests.length - 1 → P (run u)) :
    P (takeTurn p frame isThis run s) := by
  unfold takeTurn; split
  · next hq =>
    split
    · next hc =>
      refine hrun _ hlink ?_ ?_
      · simpa [State.canRespond] using hc
      · simp [hq]
    · exact harrive
  · next hq =>
    split
    · split
      · next hc =>
        refine hrun _ hdrop ?_ ?_
        · simpa [State.canRespond, State.dropRequest] using hc
        · simp [State.dropRequest, hq]
      · exact hs
    · exact harrive

theorem State.setPort_canonical (s : State) (p : Port) (v : PortState) : (s.setPort p v).canonical = s.canonical := rfl

/-- The checks of the PIU refuse, or hand the request to its owner. -/
theorem serve_next {P : State → Prop} {p : Port} {kind : Byte} {act : State → Reply} {u : State} (hu : P u)
    (ha : P (act u).next) : P (serve p kind act u).next := by
  unfold serve; split
  · exact hu
  · split
    · exact hu
    · exact ha

theorem arrive_canonical (s : State) (p : Port) (frame : List Byte) : (s.arrive p frame).canonical = s.canonical := by
  unfold State.arrive; split <;> rfl

theorem refuseFrame_canonical (s : State) (p : Port) (frame : List Byte) :
    (s.refuseFrame p frame).canonical = s.canonical := by
  unfold State.refuseFrame; split <;> rfl

theorem refusalTurn_canonical {s : State} (p : Port) (frame : List Byte) (hs : s.canonical = true) :
    (refusalTurn p frame s).canonical = true :=
  takeTurn_induction (P := fun u => u.canonical = true) hs ((arrive_canonical ..).trans hs) hs hs
    fun u hu _ _ => (refuseFrame_canonical u p frame).trans hu

theorem requestStep_canonical {s : State} (i : Instr) (act : State → Reply) (hs : s.canonical = true)
    (ha : ∀ u : State, u.Keeps (act u).next) : (requestStep i act s).canonical = true := by
  refine (State.Keeps.settle s _).tables ?_
  split
  · refine takeTurn_induction (P := fun u => u.canonical = true) hs ((arrive_canonical ..).trans hs) hs hs
      fun u hu _ _ => ?_
    exact serve_next (P := fun w => w.canonical = true) hu ((ha u).tables hu)
  · exact refusalTurn_canonical _ _ hs

theorem State.withinCapacity_iff (s : State) : s.withinCapacity = true ↔ ∀ p,
    (s.port p).events.length ≤ eventCapacity p ∧ (s.port p).requests.length ≤ 2 ∧ (s.port p).responses.length ≤ 2 := by
  simp only [State.withinCapacity, List.all_cons, List.all_nil, Bool.and_eq_true, Bool.and_true,
    and_assoc, decide_eq_true_eq]
  constructor
  · rintro ⟨a, b, c, d, e, f, g, h, i, j, k, l⟩ p
    cases p
    exacts [⟨a, b, c⟩, ⟨d, e, f⟩, ⟨g, h, i⟩, ⟨j, k, l⟩]
  · intro h
    obtain ⟨a, b, c⟩ := h .fp
    obtain ⟨d, e, f⟩ := h .mp0
    obtain ⟨g, i, j⟩ := h .mp1
    obtain ⟨k, l, m⟩ := h .rp
    exact ⟨a, b, c, d, e, f, g, i, j, k, l, m⟩

theorem State.Keeps.capacity {s t : State} (h : s.Keeps t) (hs : s.withinCapacity = true) : t.withinCapacity = true := by
  rw [State.withinCapacity_iff] at hs ⊢
  intro p
  obtain ⟨events, requests, responses⟩ := hs p
  rw [h.requests p, h.responses p]
  exact ⟨h.events p events, requests, responses⟩

/-- A write of one port that stays within its capacities. -/
theorem State.setPort_withinCapacity {s : State} (hs : s.withinCapacity = true) (p : Port) (v : PortState)
    (he : v.events.length ≤ eventCapacity p) (hq : v.requests.length ≤ 2) (ha : v.responses.length ≤ 2) :
    (s.setPort p v).withinCapacity = true := by
  rw [State.withinCapacity_iff] at hs ⊢
  intro q
  rw [State.setPort_port]
  split
  · next hqp => subst hqp; exact ⟨he, hq, ha⟩
  · exact hs q

section
variable {s : State} (hs : s.withinCapacity = true) (p : Port) (frame : List Byte)
include hs

theorem setLink_withinCapacity (l : Link) : (s.setLink p l).withinCapacity = true := by
  obtain ⟨events, requests, responses⟩ := (State.withinCapacity_iff s).mp hs p
  exact State.setPort_withinCapacity hs p _ events requests responses

theorem arrive_withinCapacity : (s.arrive p frame).withinCapacity = true := by
  obtain ⟨events, _, responses⟩ := (State.withinCapacity_iff s).mp hs p
  unfold State.arrive; split
  · next hroom =>
    refine State.setPort_withinCapacity hs p _ events ?_ responses
    simp only [Config.portBuffers] at hroom
    simpa using hroom
  · exact setLink_withinCapacity hs p _

theorem dropRequest_withinCapacity : (s.dropRequest p).withinCapacity = true := by
  obtain ⟨events, requests, responses⟩ := (State.withinCapacity_iff s).mp hs p
  refine State.setPort_withinCapacity hs p _ events ?_ responses
  simp only [List.length_tail]; omega

theorem placeResponse_withinCapacity {r : Reply} (kind : Byte) (crc : Bool) (hc : s.canRespond p = true)
    (hr : s.Keeps r.next) : (placeResponse p kind crc r).withinCapacity = true := by
  have after := hr.capacity hs
  obtain ⟨events, requests, _⟩ := (State.withinCapacity_iff _).mp after p
  refine State.setPort_withinCapacity after p _ events requests ?_
  simp only [State.canRespond, Config.portBuffers] at hc
  simpa [hr.responses p] using hc

theorem refuseFrame_withinCapacity (hc : s.canRespond p = true) (hq : (s.port p).requests.length < 2) :
    (s.refuseFrame p frame).withinCapacity = true := by
  unfold State.refuseFrame; split
  · exact placeResponse_withinCapacity hs p _ _ hc (.refl s)
  · obtain ⟨events, _, responses⟩ := (State.withinCapacity_iff s).mp hs p
    exact State.setPort_withinCapacity hs p _ events (by simpa using hq) responses

theorem refusalTurn_withinCapacity : (refusalTurn p frame s).withinCapacity = true := by
  refine takeTurn_induction (P := fun u => u.withinCapacity = true) hs (arrive_withinCapacity hs p _)
    (setLink_withinCapacity hs p _) (dropRequest_withinCapacity hs p) fun u hu hc hq => ?_
  obtain ⟨_, requests, _⟩ := (State.withinCapacity_iff s).mp hs p
  exact refuseFrame_withinCapacity hu p frame hc (by omega)

theorem requestStep_withinCapacity (i : Instr) (act : State → Reply) (ha : ∀ u : State, u.Keeps (act u).next) :
    (requestStep i act s).withinCapacity = true := by
  refine (State.Keeps.settle s _).capacity ?_
  split
  · refine takeTurn_induction (P := fun u => u.withinCapacity = true) hs (arrive_withinCapacity hs _ _)
      (setLink_withinCapacity hs _ _) (dropRequest_withinCapacity hs _) fun u hu hc _ => ?_
    exact placeResponse_withinCapacity hu _ _ _ hc (serve_next (P := State.Keeps u) (.refl u) (ha u))
  · exact refusalTurn_withinCapacity hs _ _
end

/-! ### The commands -/

theorem State.Continues.keeps {s u : State} (h : s.Continues u) : s.Keeps u := by
  have refl := Keeps.refl s
  cases h with
  | sealing i => exact refl.expireSeal i
  | deadline k => exact refl.expireDeadline k
  | report c => exact refl.tryReport c
  | close i => exact refl.closeTest i
  | fence f => exact refl.fenceTest f
  | drain => exact refl.drainTest
  | slots d => exact refl.slotArbiter d
  | supply d => exact refl.supplyArbiter d

theorem State.powerOnReset_canonical (s : State) : s.powerOnReset.canonical = true := rfl

theorem State.powerOnReset_withinCapacity (s : State) : s.powerOnReset.withinCapacity = true := rfl

theorem State.assertion_keeps (s : State) :
    s.Keeps (if s.control.powerFail then s else settle s (s.setPowerFail true).powerFails) := by
  split
  · exact .refl s
  · exact (((Keeps.refl s).setControl _).powerFails).trans (.settle s _)

theorem State.reset_keeps (s : State) : s.powerOnReset.Keeps
    (if s.control.powerFail then s.powerOnReset.completeDrain 0 else s.powerOnReset) := by
  split
  · exact (Keeps.refl _).completeDrain 0
  · exact .refl _

/-- Every command keeps the tables canonical. -/
theorem State.Moves.canonical {c : Instr} {s t : State} (h : s.Moves c t) (hs : s.canonical = true) :
    t.canonical = true := by
  cases h with
  | request => exact requestStep_canonical _ _ hs fun u => (requestAct_served u c).keeps
  | arrival p frame => exact (arrive_canonical ..).trans hs
  | invalid p frame => exact (Keeps.settle s _).tables (refusalTurn_canonical p frame hs)
  | read p n =>
    unfold State.readResponse; split
    · exact hs
    · split <;> exact hs
  | portReset | pulseEnd | deassertion | tick => exact hs
  | reset => exact s.reset_keeps.tables s.powerOnReset_canonical
  | assertion => exact s.assertion_keeps.tables hs
  | continues c u hu => exact (hu.keeps.trans (.settle s u)).tables hs

/-- Every command keeps queues and buffers within their capacities. -/
theorem State.Moves.withinCapacity {c : Instr} {s t : State} (h : s.Moves c t) (hs : s.withinCapacity = true) :
    t.withinCapacity = true := by
  cases h with
  | request => exact requestStep_withinCapacity hs _ _ fun u => (requestAct_served u c).keeps
  | arrival p frame => exact arrive_withinCapacity hs p frame
  | invalid p frame => exact (Keeps.settle s _).capacity (refusalTurn_withinCapacity hs p frame)
  | read p n =>
    unfold State.readResponse; split
    · exact setLink_withinCapacity hs p _
    · next r rest hr =>
      split
      · obtain ⟨events, requests, responses⟩ := (State.withinCapacity_iff s).mp hs p
        refine State.setPort_withinCapacity hs p _ events requests ?_
        rw [hr, List.length_cons] at responses
        exact Nat.le_of_succ_le responses
      · exact setLink_withinCapacity hs p _
  | portReset p =>
    obtain ⟨events, -, -⟩ := (State.withinCapacity_iff s).mp hs p
    exact State.setPort_withinCapacity hs p _ events (Nat.zero_le _) (Nat.zero_le _)
  | pulseEnd p =>
    obtain ⟨events, requests, responses⟩ := (State.withinCapacity_iff s).mp hs p
    exact State.setPort_withinCapacity hs p _ events requests responses
  | reset => exact s.reset_keeps.capacity s.powerOnReset_withinCapacity
  | assertion => exact s.assertion_keeps.capacity hs
  | deassertion | tick => exact ((Keeps.refl s).setControl _).capacity hs
  | continues c u hu => exact (hu.keeps.trans (.settle s u)).capacity hs

/-- What holds of the state with its queue shortened is kept by a step where every command keeps it. -/
theorem step_keeps {P : State → Prop} (hp : ∀ s q, P s → P (s.withPending q))
    (hc : ∀ c s t, P s → s.Moves c t → P t) {s t : State} (hs : P s) (h : step s = .next t) : P t := by
  unfold step at h; split at h
  · cases h; exact hs
  · exact hc _ _ _ (hp _ _ hs) (State.moves_of_exec h)

/-- Settles O3: each operation keeps the tables canonical by the writes it is made of (`State.Keeps`), so each command
does, and so each step. -/
theorem tablesStayCanonical : Obligations.TablesStayCanonical := by
  unfold Obligations.TablesStayCanonical
  exact fun s t hs h =>
    step_keeps (P := fun u => u.canonical = true) (fun _ _ => id) (fun _ _ _ hu hm => hm.canonical hu) hs h

/-- Settles O4: an event enters a queue with room alone (`State.Keeps`), a frame a free request buffer and a response a
free response buffer (`takeTurn_induction`). -/
theorem portsStayWithinCapacity : Obligations.PortsStayWithinCapacity := by
  unfold Obligations.PortsStayWithinCapacity
  exact fun s t hs h =>
    step_keeps (P := fun u => u.withinCapacity = true) (fun _ _ => id) (fun _ _ _ hu hm => hm.withinCapacity hu) hs h

end Sys2Proof.Machine
end

section
/-! The settlement of O5: a write of a function record moves Ru by the change of its term (`Table.sum_write`), so each
operation keeps the admission law (`State.Lawful`). -/

namespace Sys2Proof.Machine

/-! ### The sum over a table -/

/-- Below the first index of a canonical table every entry is the power-on entry. -/
theorem Table.read_of_canonicalFrom {α : Type} [DecidableEq α] {d : α} {t : Table α} {low i : Nat}
    (h : Table.canonicalFrom d low t = true) (hi : i < low) : Table.read d t i = d := Table.read_below d t low i h hi

theorem Table.sum_writeFrom {α : Type} [DecidableEq α] (d : α) (g : α → Nat) (hd : g d = 0) (t : Table α) (i low : Nat)
    (v : α) (h : Table.canonicalFrom d low t = true) :
    ((Table.write d t i v).map fun c => g c.2).sum + g (Table.read d t i) = (t.map fun c => g c.2).sum + g v := by
  induction t generalizing low with
  | nil => by_cases hv : v = d <;> simp [Table.write, hv, hd]
  | cons c t ih =>
    obtain ⟨j, w⟩ := c
    simp only [Table.canonicalFrom, Bool.and_eq_true, decide_eq_true_eq] at h
    obtain ⟨-, htail⟩ := h
    simp only [Table.write, Table.read]
    by_cases hlt : i < j
    · by_cases hv : v = d
      · simp [hlt, hv, hd]
      · simp [hlt, hv, hd]; omega
    · by_cases heq : i = j
      · subst heq
        by_cases hv : v = d
        · simp [hv, hd, Table.dropWhile_canonical d t i htail]; omega
        · simp [hv]; omega
      · have := ih (j + 1) htail
        simp only [hlt, heq, if_false, List.map_cons, List.sum_cons]
        omega

/-- The sum over a canonical table follows a write, where the power-on entry counts nothing. -/
theorem Table.sum_write {α : Type} [DecidableEq α] (d : α) (g : α → Nat) (hd : g d = 0) {t : Table α}
    (h : Table.canonical d t = true) (i : Nat) (v : α) :
    ((Table.write d t i v).map fun c => g c.2).sum + g (Table.read d t i) = (t.map fun c => g c.2).sum + g v :=
  Table.sum_writeFrom d g hd t i 0 v h

/-! ### The law -/

/-- The admission law, and what holds of the counters in CONFIG, with a name for each part. -/
structure State.Lawful (s : State) : Prop where
  table : Table.canonical .powerOn s.functions = true
  unused : s.budget.unused = (s.functions.map fun c => c.2.term).sum
  total : s.budget.total ≤ s.limits.holdUp
  reclaim : s.budget.reclaimHeld ≤ s.limits.reclaimHeld
  tenantUse : s.tenantInUse ≤ Config.records - s.limits.reclaimRecords
  reclaimUse : s.reclaimInUse ≤ s.limits.reclaimRecords
  config : s.device = .config →
    s.budget.total = 0 ∧ s.budget.reclaimHeld = 0 ∧ s.tenantInUse = 0 ∧ s.reclaimInUse = 0

theorem State.lawful_iff (s : State) : s.admissionLaw = true ↔ s.Lawful := by
  have config : s.configEmpty = true ↔ (s.device = .config →
      s.budget.total = 0 ∧ s.budget.reclaimHeld = 0 ∧ s.tenantInUse = 0 ∧ s.reclaimInUse = 0) := by
    by_cases hd : s.device = .config <;> simp [State.configEmpty, hd, and_assoc]
  simp only [State.admissionLaw, Bool.and_eq_true, decide_eq_true_eq, config]
  constructor
  · rintro ⟨⟨⟨⟨⟨⟨a, b⟩, c⟩, d⟩, e⟩, f⟩, g⟩
    exact ⟨a, b, c, d, e, f, g⟩
  · rintro ⟨a, b, c, d, e, f, g⟩
    exact ⟨⟨⟨⟨⟨⟨a, b⟩, c⟩, d⟩, e⟩, f⟩, g⟩

/-- The record of a function whose write of n sectors was admitted. -/
def Function.taken (fn : Function) (n : Nat) : Function :=
  { fn with held := fn.held + n, serial := fn.serial + 1, outstanding := fn.outstanding + 1 }

theorem State.takeBudget_eq (s : State) (f n : Nat) : s.takeBudget f n = (s.setFunction f ((s.function f).taken n)).setBudget
    { s.budget with total := s.budget.total + n, unused := s.budget.unused - min n (s.function f).spare } := rfl

/-- An admission uses the function's unused reserve first. -/
theorem Function.term_taken (fn : Function) (n : Nat) : (fn.taken n).term + min n fn.term = fn.term := by
  cases hs : fn.state <;> simp [Function.term, Function.taken, Function.spare, hs] <;> omega

/-- A function that holds fewer sectors has no smaller a term. -/
theorem Function.term_le_lowered (fn : Function) (k : Nat) : fn.term ≤ ({ fn with held := fn.held - k } : Function).term := by
  simp only [Function.term, Function.spare]; split <;> omega

/-- A limit that RUN allows to be set is none that the law reads. -/
theorem Limits.store_running (l : Limits) (name : LimitName) (value : Nat) (h : name.configOnly = false) :
    (l.store name value).holdUp = l.holdUp ∧ (l.store name value).reclaimHeld = l.reclaimHeld ∧
      (l.store name value).reclaimRecords = l.reclaimRecords := by
  cases name with
  | highWater | batchDeadline | overdue | failureLimit | lowWater => exact ⟨rfl, rfl, rfl⟩
  | holdUp | reclaimHeld | reclaimRecords | dieInFlight | reclaimTimeout => cases h

/-- A record is given out while its partition is not used up. -/
theorem State.recordFor_tenant {s : State} {r : Nat} (h : s.recordFor .tenant = some r) :
    s.tenantInUse < Config.records - s.limits.reclaimRecords := by
  simp only [State.recordFor, decide_eq_true_eq] at h
  split at h
  · cases h
  · omega

theorem State.recordFor_reclaim {s : State} {r : Nat} (h : s.recordFor .reclaim = some r) :
    s.reclaimInUse < s.limits.reclaimRecords := by
  simp only [State.recordFor, decide_eq_true_eq] at h
  split at h
  · cases h
  · omega

namespace State.Lawful

variable {s t : State}

/-- The law reads the function records, the counters and Device Control alone, and the counters may fall. -/
theorem of_fewer (h : s.Lawful) (hf : t.functions = s.functions) (hu : t.budget.unused = s.budget.unused)
    (ht : t.budget.total ≤ s.budget.total) (hr : t.budget.reclaimHeld ≤ s.budget.reclaimHeld)
    (htu : t.tenantInUse ≤ s.tenantInUse) (hru : t.reclaimInUse ≤ s.reclaimInUse) (hl : t.limits = s.limits)
    (hd : t.device = .config → s.device = .config) : t.Lawful where
  table := hf ▸ h.table
  unused := by rw [hu, hf, h.unused]
  total := by rw [hl]; exact ht.trans h.total
  reclaim := by rw [hl]; exact hr.trans h.reclaim
  tenantUse := by rw [hl]; exact htu.trans h.tenantUse
  reclaimUse := by rw [hl]; exact hru.trans h.reclaimUse
  config hc := by
    obtain ⟨a, b, c, d⟩ := h.config (hd hc)
    omega

/-- What leaves the ledger and Device Control alone keeps the law. -/
theorem of_kept (h : s.Lawful) (hl : t.ledger = s.ledger) (control : t.control = s.control) : t.Lawful := by
  have budget := ledger_budget hl
  refine h.of_fewer (ledger_functions hl) (by rw [budget]) (by rw [budget]) (by rw [budget]) (ledger_tenantInUse hl).le
    (ledger_reclaimInUse hl).le ?_ ?_
  · rw [State.limits, control]
  · rw [State.device, control]; exact id

theorem of_same (h : s.Lawful) (hl : t.ledger = s.ledger) (ho : t.outer = s.outer) : t.Lawful :=
  h.of_kept hl (outer_control ho)

/-- A write of a function's record, with Ru moved by the change of its term. -/
theorem setTerm (h : s.Lawful) (f : Nat) (v : Function) (b : Budget)
    (hu : b.unused + (s.function f).term = s.budget.unused + v.term) (ht : b.total ≤ s.limits.holdUp)
    (hr : b.reclaimHeld ≤ s.limits.reclaimHeld) (hc : s.device = .config → b.total = 0 ∧ b.reclaimHeld = 0) :
    ((s.setFunction f v).setBudget b).Lawful where
  table := Table.canonical_write _ _ _ _ h.table
  unused := by
    have moved := Table.sum_write Function.powerOn Function.term rfl h.table f v
    have before := h.unused
    show b.unused = ((Table.write Function.powerOn s.functions f v).map fun c => c.2.term).sum
    rw [State.function] at hu
    omega
  total := ht
  reclaim := hr
  tenantUse := h.tenantUse
  reclaimUse := h.reclaimUse
  config hd := ⟨(hc hd).1, (hc hd).2, (h.config hd).2.2⟩

/-- A write of a function's record that leaves its term. -/
theorem setFunction (h : s.Lawful) (f : Nat) (v : Function) (hv : v.term = (s.function f).term) :
    (s.setFunction f v).Lawful :=
  h.setTerm f v s.budget (by omega) h.total h.reclaim fun hd => ⟨(h.config hd).1, (h.config hd).2.1⟩

theorem foldl {α : Type} {g : State → α → State} (hg : ∀ u x, u.Lawful → (g u x).Lawful) (h : s.Lawful) (xs : List α) :
    (xs.foldl g s).Lawful := List.foldlRecOn xs g h fun u hu x _ => hg u x hu

/-! ### The operations -/

theorem emit (h : s.Lawful) (p : Port) (e : Event) : (s.emit p e).Lawful := h.of_same (by simp) (by simp)
theorem test (h : s.Lawful) (i : Nat) : (s.test i).Lawful := h.of_same (by simp) (by simp)
theorem markAndTest (h : s.Lawful) (i : Nat) : (s.markAndTest i).Lawful := h.of_same (by simp) (by simp)
theorem setStream (h : s.Lawful) (i : Nat) (v : Stream) : (s.setStream i v).Lawful := h.of_same rfl rfl
theorem setRecord (h : s.Lawful) (r : Nat) (v : Fragment) : (s.setRecord r v).Lawful := h.of_same rfl rfl
theorem setReclaimWait (h : s.Lawful) (w : Wait) : (s.setReclaimWait w).Lawful :=
  h.of_fewer rfl rfl le_rfl le_rfl le_rfl le_rfl rfl id

theorem openBudgetWait (h : s.Lawful) (f : Nat) : (openBudgetWait s f).Lawful := by
  have quiet : (s.emit .fp (.admissionOpen (some f))).function f = s.function f := by rw [emit_rest]; rfl
  unfold Machine.openBudgetWait; split
  · split
    · exact (h.emit ..).setFunction _ _ (by rw [quiet]; rfl)
    · exact h
  · exact h
  · exact h
theorem openBudgetWaits (h : s.Lawful) : s.openBudgetWaits.Lawful :=
  h.foldl (fun _ f hu => hu.openBudgetWait f) _
theorem lowerHeld (h : s.Lawful) (f k : Nat) : (s.lowerHeld f k).Lawful := by
  refine h.setTerm f _ _ ?_ ((Nat.sub_le ..).trans h.total) h.reclaim fun hd => ?_
  · exact (Nat.add_assoc ..).trans (congrArg _ (Nat.sub_add_cancel (Function.term_le_lowered _ k)))
  · obtain ⟨total, held, -⟩ := h.config hd
    exact ⟨Nat.le_zero.mp ((Nat.sub_le ..).trans total.le), held⟩
theorem release (h : s.Lawful) (f k : Nat) : (s.release f k).Lawful := (h.lowerHeld f k).openBudgetWaits
theorem openReclaimBudgetWait (h : s.Lawful) : s.openReclaimBudgetWait.Lawful := by
  unfold State.openReclaimBudgetWait; split
  · split
    · rw [emit_rest]; exact h.of_fewer rfl rfl le_rfl le_rfl le_rfl le_rfl rfl id
    · exact h
  · exact h
  · exact h
theorem releaseReclaim (h : s.Lawful) (k : Nat) : (s.releaseReclaim k).Lawful :=
  openReclaimBudgetWait (h.of_fewer rfl rfl le_rfl (Nat.sub_le ..) le_rfl le_rfl rfl id)
theorem releaseStream (h : s.Lawful) (i k : Nat) : (s.releaseStream i k).Lawful := by
  unfold State.releaseStream; split
  · exact h.release ..
  · exact h.releaseReclaim ..
theorem openRecordsWait (h : s.Lawful) (f : Nat) : (openRecordsWait s f).Lawful := by
  have quiet : (s.emit .fp (.admissionOpen (some f))).function f = s.function f := by rw [emit_rest]; rfl
  unfold Machine.openRecordsWait; split
  · exact (h.emit ..).setFunction _ _ (by rw [quiet]; rfl)
  · exact h
  · exact h
theorem openTenantRecordsWaits (h : s.Lawful) : s.openTenantRecordsWaits.Lawful :=
  h.foldl (fun _ f hu => hu.openRecordsWait f) _
theorem openReclaimRecordsWait (h : s.Lawful) : s.openReclaimRecordsWait.Lawful := by
  unfold State.openReclaimRecordsWait; split
  · rw [emit_rest]; exact h.of_fewer rfl rfl le_rfl le_rfl le_rfl le_rfl rfl id
  · exact h
  · exact h
theorem countClosed (h : s.Lawful) (c : StreamClass) (f : Nat) : (s.countClosed c f).Lawful := by
  cases c
  · exact h.setFunction f _ rfl
  · exact h.of_fewer rfl rfl le_rfl le_rfl le_rfl le_rfl rfl id
theorem emitClosed (h : s.Lawful) (i : Nat) (c : StreamClass) (p : Option Port) : (s.emitClosed i c p).Lawful := by
  cases p <;> cases c
  · exact h.emit ..
  · exact h
  · exact (h.emit ..).emit ..
  · exact h.emit ..
theorem completeClose (h : s.Lawful) (i : Nat) : (s.completeClose i).Lawful := by
  refine ((setStream ?_ _ _).countClosed _ _).emitClosed _ _ _
  exact h.of_same (by simp) (by simp)
theorem closeTest (h : s.Lawful) (i : Nat) : (s.closeTest i).Lawful := by
  unfold State.closeTest; split
  · exact h.completeClose i
  · exact h
theorem fenceTest (h : s.Lawful) (f : Nat) : (s.fenceTest f).Lawful := by
  unfold State.fenceTest; dsimp only; split
  · next p _ =>
    split
    · have quiet : (s.emit p (.fenceComplete f (s.function f).violations)).function f = s.function f := by
        rw [emit_rest]; rfl
      exact (h.emit ..).setFunction _ _ (by rw [quiet]; rfl)
    · exact h
  · exact h
theorem freeRecord (h : s.Lawful) (r : Nat) : (s.freeRecord r).Lawful := by
  have freed := h.setRecord r .powerOn
  unfold State.freeRecord; dsimp only
  refine closeTest ?_ _
  split
  · have counted : ({ s.setRecord r .powerOn with tenantInUse := s.tenantInUse - 1 } : State).Lawful :=
      freed.of_fewer rfl rfl le_rfl le_rfl (Nat.sub_le ..) le_rfl rfl id
    exact ((counted.setFunction _ _ (by rfl)).fenceTest _).openTenantRecordsWaits
  · exact openReclaimRecordsWait (freed.of_fewer rfl rfl le_rfl le_rfl le_rfl (Nat.sub_le ..) rfl id)
theorem withReports (h : s.Lawful) (cs : List Completion) : ({ s with reports := cs } : State).Lawful :=
  h.of_fewer rfl rfl le_rfl le_rfl le_rfl le_rfl rfl id
theorem pushEvent (h : s.Lawful) (p : Port) (e : Event) : (s.pushEvent p e).Lawful := h.of_same rfl rfl
theorem report (h : s.Lawful) (c : Completion) : (s.report c).Lawful := by
  unfold State.report; dsimp only; split
  · exact ((h.withReports _).pushEvent ..).freeRecord _
  · exact ((h.withReports _).pushEvent ..).setFunction _ _ rfl
theorem placeReports (h : s.Lawful) (p : Port) : (s.placeReports p).Lawful := by
  have fuel (n : Nat) (u : State) (hu : u.Lawful) : (State.placeFor n u p).Lawful := by
    induction n generalizing u with
    | zero => exact hu
    | succ n ih =>
      unfold State.placeFor; split
      · split
        · exact ih _ (hu.report _)
        · exact hu
      · exact hu
  exact fuel _ s h
theorem addReport (h : s.Lawful) (c : Completion) : (s.addReport c).Lawful := (h.withReports _).placeReports _
theorem flushTest (h : s.Lawful) (f : Nat) : (s.flushTest f).Lawful := by
  unfold State.flushTest; split
  · split
    · exact h
    · exact (h.setFunction f _ (by rfl)).addReport _
  · exact h
  · exact h
theorem retireHead (h : s.Lawful) (i r : Nat) : (s.retireHead i r).Lawful :=
  ((h.setStream i _).setRecord r _).addReport _
theorem retire (h : s.Lawful) (i : Nat) : (s.retire i).1.Lawful := by
  have run (n : Nat) (u : State) (hu : u.Lawful) : (State.retireFor n u i).1.Lawful := by
    induction n generalizing u with
    | zero => exact hu
    | succ n ih =>
      unfold State.retireFor; split
      · exact hu
      · split
        · exact ih _ (hu.retireHead ..)
        · exact hu
  unfold State.retire State.afterRun; dsimp only
  split
  · exact run _ s h
  · split
    · exact (run _ s h).flushTest _
    · exact run _ s h
theorem discardMarks (h : s.Lawful) (i : Nat) (rs : List Nat) : (s.discardMarks i rs).1.Lawful := by
  have marked : (rs.foldl State.markRecord s).Lawful := h.foldl (fun _ _ hu => hu.setRecord ..) rs
  unfold State.discardMarks; dsimp only
  split
  · exact (marked.releaseStream ..).setStream ..
  · exact marked.releaseStream ..
theorem completeDrain (h : s.Lawful) (n : Nat) : (s.completeDrain n).Lawful := by
  have control := outer_control (completeDrain_outer s n)
  have ledger := completeDrain_ledger s n
  have budget := ledger_budget ledger
  refine h.of_fewer (ledger_functions ledger) (by rw [budget]) (by rw [budget]) (by rw [budget])
    (ledger_tenantInUse ledger).le (ledger_reclaimInUse ledger).le ?_ ?_
  · rw [State.limits, control]
  · rw [State.device, control]; exact nofun
theorem drainTest (h : s.Lawful) : s.drainTest.Lawful := by
  rcases s.drainTest_cases with e | ⟨-, -, e⟩ <;> rw [e]
  · exact h
  · exact h.completeDrain _

theorem done (h : s.Lawful) (b : Batch) (k : Nat) : (s.done b k).1.Lawful := by
  have durable : (b.extents.foldl State.makeDurable (s.advance b)).Lawful :=
    (h.of_same (by simp) (by simp)).foldl (fun _ _ hu => hu.setRecord ..) _
  have retired := durable.retire b.stream
  unfold State.done; dsimp only
  refine drainTest (closeTest (test ?_ _) _)
  exact (retired.releaseStream b.stream b.real).of_same (by simp) (by simp)
theorem fail (h : s.Lawful) (b : Batch) : (s.fail b).Lawful := by
  unfold State.fail; dsimp only
  exact drainTest (h.of_same (by simp) (by simp))

theorem takeover (h : s.Lawful) (k : Core) : (s.takeover k).Lawful := by
  refine h.of_kept (s.takeover_ledger k) ?_
  rw [outer_control (s.takeover_outer k)]
  cases k <;> rfl

/-! ### The accepted requests -/

theorem joinChain {i r : Nat} {rec : Fragment} (h : (s.chainRecord i r rec).Lawful) : (s.joinChain i r rec).Lawful := by
  unfold State.joinChain; dsimp only; split
  · exact (h.setStream ..).test i
  · exact h.test i

/-- A TENANT record joins a chain: its partition has room for one more. -/
theorem chainTenant (h : s.Lawful) (i r : Nat) (w : Write) (f : Nat) (a tick : Word) (hd : s.device ≠ .config)
    (room : s.tenantInUse < Config.records - s.limits.reclaimRecords) :
    (s.chainRecord i r (w.record i (.tenant f a) tick)).Lawful := by
  refine (setRecord ?_ r _).setStream i _
  exact { h with tenantUse := room, config := fun hc => absurd hc hd }

/-- The same for a RECLAIM record. -/
theorem chainReclaim (h : s.Lawful) (i r : Nat) (w : Write) (tick : Word) (hd : s.device ≠ .config)
    (room : s.reclaimInUse < s.limits.reclaimRecords) : (s.chainRecord i r (w.record i .reclaim tick)).Lawful := by
  refine (setRecord ?_ r _).setStream i _
  exact { h with reclaimUse := room, config := fun hc => absurd hc hd }

/-- A function's term is part of Ru. -/
theorem term_le (h : s.Lawful) (f : Nat) : (s.function f).term ≤ s.budget.unused := by
  have cleared := Table.sum_write Function.powerOn Function.term rfl h.table f .powerOn
  have zero : Function.powerOn.term = 0 := rfl
  have before := h.unused
  unfold State.function
  omega

/-- R32's test keeps T within H: the function's own unused reserve is part of Ru. -/
theorem takeBudget (h : s.Lawful) (f n : Nat) (hf : (s.function f).state = .enabled) (hb : s.budgetTest f n = true)
    (hd : s.device ≠ .config) : (s.takeBudget f n).Lawful := by
  have own : (s.function f).term = (s.function f).spare := by simp [Function.term, hf]
  have part := h.term_le f
  have used := (s.function f).term_taken n
  simp only [State.budgetTest, Bool.and_eq_true, decide_eq_true_eq] at hb
  rw [s.takeBudget_eq]
  refine h.setTerm f _ _ ?_ ?_ h.reclaim fun hc => absurd hc hd
  · dsimp only; rw [← own]; omega
  · dsimp only; omega
theorem pressureSeal (h : s.Lawful) : s.pressureSeal.Lawful := by
  unfold State.pressureSeal; split
  · split
    · exact h.markAndTest _
    · exact h
  · exact h
theorem fence (h : s.Lawful) (f : Nat) (m : FenceMode) (p : Port) (hf : (s.function f).state = .enabled) :
    (s.fence f m p).Lawful := h.setFunction f _ (by simp [Function.term, hf]; rfl)
theorem leaveSupplyIdle (h : s.Lawful) (i : Nat) : (s.leaveSupplyIdle i).Lawful := by
  unfold State.leaveSupplyIdle; split
  · exact h.of_same rfl rfl
  · exact h
theorem fenceDiscard (h : s.Lawful) (i : Nat) : (s.fenceDiscard i).Lawful :=
  ((h.discardMarks i _).leaveSupplyIdle i).retire i
theorem startFence (h : s.Lawful) (f : Nat) (m : FenceMode) (p : Port) (hf : (s.function f).state = .enabled) :
    (s.startFence f m p).Lawful := by
  have fenced := h.fence f m p hf
  unfold State.startFence; dsimp only
  refine fenceTest ?_ f
  cases m
  · exact fenced.foldl (fun _ i hu => hu.fenceDiscard i) _
  · exact fenced.foldl (fun _ i hu => hu.markAndTest i) _
theorem startFlush (h : s.Lawful) (f : Nat) (tag : Word) : (s.startFlush f tag).Lawful :=
  ((h.setFunction f _ (by rfl)).foldl (fun _ i hu => hu.markAndTest i) _).flushTest f
theorem setBinding (h : s.Lawful) (f k : Nat) (v : Option Nat) : (s.setBinding f k v).Lawful :=
  h.of_fewer rfl rfl le_rfl le_rfl le_rfl le_rfl rfl id
theorem unbind (h : s.Lawful) (f k : Nat) : (s.unbind f k).Lawful := by
  unfold State.unbind; split
  · exact (h.setStream ..).setBinding ..
  · exact h
theorem bindTo (h : s.Lawful) (f k i : Nat) : (s.bindTo f k i).Lawful := by
  unfold State.bindTo; split
  · exact h
  · exact ((h.unbind f k).setStream ..).setBinding ..
theorem startClose (h : s.Lawful) (i : Nat) (p : Port) : (s.startClose i p).Lawful := by
  refine closeTest (markAndTest (setStream ?_ _ _) i) i
  refine h.foldl (fun u k hu => ?_) _
  unfold State.unbindFrom; split
  · exact hu.setBinding ..
  · exact hu
theorem discard (h : s.Lawful) (i : Nat) : (s.discard i).1.Lawful := by
  have retired := ((h.discardMarks i (s.stream i).chain).retire i).setStream i
  unfold State.discard; dsimp only
  exact (((retired _).setStream ..).test i).drainTest
theorem applySettings (h : s.Lawful) (f : Nat) (en : Bool) (r c t : Nat) : (s.applySettings f en r c t).Lawful := by
  have part := h.term_le f
  refine openBudgetWaits (h.setTerm f _ _ ?_ ?_ ?_ fun hd => ?_)
  · exact Nat.sub_add_cancel (part.trans (Nat.le_add_right ..))
  · exact h.total
  · exact h.reclaim
  · exact ⟨(h.config hd).1, (h.config hd).2.1⟩
theorem supplyEntries (h : s.Lawful) (p : Port) (es : List SegmentName) : (State.supplyEntries p es s).2.Lawful := by
  induction es generalizing s with
  | nil => exact h
  | cons e es ih =>
    unfold State.supplyEntries; split
    · exact ih h
    · exact ih (h.of_same (by simp [State.supplyEntry, State.addFree]) (by simp [State.supplyEntry, State.addFree]))
theorem setSegment (h : s.Lawful) (g : Seg) (v : Segment) : (s.setSegment g v).Lawful := h.of_same rfl rfl
theorem setDie (h : s.Lawful) (d : Nat) (v : Die) : (s.setDie d v).Lawful := h.of_same rfl rfl
theorem setControl (h : s.Lawful) (c : Control) (hl : c.limits = s.limits) (hd : c.device = .config → s.device = .config) :
    (s.setControl c).Lawful := h.of_fewer rfl rfl le_rfl le_rfl le_rfl le_rfl hl hd
theorem loadEntry (h : s.Lawful) (e : LoadEntry) : (s.loadEntry e).2.Lawful := by
  unfold State.loadEntry; split
  · unfold State.loadWritten; split
    · exact h
    · split
      · exact h
      · split
        · exact h
        · exact h.setSegment ..
  · split
    · unfold State.loadRetired; split
      · exact h
      · split
        case h_1 => exact h.setSegment ..
        all_goals exact h
    · exact h
theorem loadEntries (h : s.Lawful) (es : List LoadEntry) : (State.loadEntries es s).2.Lawful := by
  induction es generalizing s with
  | nil => exact h
  | cons e es ih => exact ih (h.loadEntry e)
theorem invalidateEntries (h : s.Lawful) (es : List StaleEntry) : (State.invalidateEntries es s).2.Lawful := by
  induction es generalizing s with
  | nil => exact h
  | cons e es ih => exact ih (h.setSegment ..)
theorem applyGeometry (h : s.Lawful) (g : Geometry) : (s.applyGeometry g).Lawful := by
  have drop (u : State) (d : Nat) (hu : u.Lawful) : (u.dropCore d).Lawful := by
    unfold State.dropCore; split
    · exact hu.setDie ..
    · exact hu
  have set : (s.setControl { s.control with geometry := some g }).Lawful := h.setControl _ rfl id
  exact set.foldl drop _
/-- The limits that the law reads are stored in CONFIG alone, where nothing is held. -/
theorem setLimit (h : s.Lawful) (name : LimitName) (value : Nat) (hc : name.configOnly = true → s.device = .config) :
    (s.setControl { s.control with limits := s.limits.store name (s.limits.stored name value) }).Lawful := by
  by_cases hd : s.device = .config
  · obtain ⟨total, held, tenant, reclaim⟩ := h.config hd
    exact { h with
      total := total.le.trans (Nat.zero_le _), reclaim := held.le.trans (Nat.zero_le _)
      tenantUse := tenant.le.trans (Nat.zero_le _), reclaimUse := reclaim.le.trans (Nat.zero_le _) }
  · obtain ⟨holdUp, held, records⟩ := Limits.store_running s.limits name (s.limits.stored name value)
      (Bool.eq_false_iff.mpr fun hn => hd (hc hn))
    exact { h with
      total := h.total.trans holdUp.ge, reclaim := h.reclaim.trans held.ge
      tenantUse := h.tenantUse.trans (congrArg (Config.records - ·) records).ge
      reclaimUse := h.reclaimUse.trans records.ge }
theorem restart (h : s.Lawful) : s.restart.Lawful where
  table := Table.canonical_mapEntries _ _ _ h.table
  unused := rfl
  total := Nat.zero_le _
  reclaim := Nat.zero_le _
  tenantUse := Nat.zero_le _
  reclaimUse := Nat.zero_le _
  config _ := ⟨rfl, rfl, rfl, rfl⟩
theorem powerOnReset (s : State) : s.powerOnReset.Lawful := by
  refine ⟨rfl, rfl, ?_, ?_, ?_, ?_, fun _ => ⟨rfl, rfl, rfl, rfl⟩⟩
  all_goals exact Nat.zero_le _

end State.Lawful

theorem State.Served.lawful {s t : State} (h : s.Served t) (hs : s.Lawful) : t.Lawful := by
  cases h with
  | same => exact hs
  | wait | violation => exact hs.setFunction _ _ rfl
  | reclaimWait => exact hs.setReclaimWait _
  | admitTenant f i r w hd hf hr hb =>
    have notConfig : s.device ≠ .config := by simp [hd]
    exact (State.Lawful.joinChain ((hs.takeBudget f w.n hf hb notConfig).chainTenant i r w _ _ _ notConfig
      (State.recordFor_tenant hr))).pressureSeal
  | admitReclaim i r w hd hr hb =>
    have taken : (s.setBudget { s.budget with reclaimHeld := s.budget.reclaimHeld + w.n }).Lawful :=
      { hs with reclaim := by simpa [State.reclaimTest] using hb, config := fun hc => absurd (hd.symm.trans hc) nofun }
    exact State.Lawful.joinChain (taken.chainReclaim i r w _ (by simp [hd]) (State.recordFor_reclaim hr))
  | flush => exact hs.startFlush ..
  | openStream i v cls owner =>
    cases cls
    · exact (hs.setStream i v).setFunction _ _ rfl
    · exact (hs.setStream i v).of_fewer rfl rfl le_rfl le_rfl le_rfl le_rfl rfl id
  | bind => exact hs.bindTo ..
  | unbind => exact hs.unbind ..
  | intake => exact hs.setStream ..
  | close => exact hs.startClose ..
  | resume => exact hs.of_same (by simp [State.resume, State.leaveHalt]) (by simp [State.resume, State.leaveHalt])
  | discard => exact hs.discard _
  | settings => exact hs.applySettings ..
  | fence f m p hf => exact hs.startFence f m p hf
  | unfence f hf => exact hs.setFunction _ _ (by simp [Function.term, hf]; rfl)
  | supply => exact hs.supplyEntries ..
  | take => exact hs.of_same rfl rfl
  | done => exact hs.done ..
  | fail => exact hs.fail _
  | invalidate => exact hs.invalidateEntries _
  | victims => exact hs.foldl (fun _ _ hu => hu.setSegment ..) _
  | segment => exact hs.setSegment ..
  | release => exact hs.of_same (by simp) (by simp)
  | geometry => exact hs.applyGeometry _
  | lock => exact hs.setControl _ rfl id
  | start => exact hs.setControl _ rfl nofun
  | limit name value ha hc => exact hs.setLimit name value hc
  | dieMap => exact hs.foldl (fun _ _ hu => hu.setDie ..) _
  | load => exact hs.loadEntries _
  | restart => exact hs.restart
  | collect p n => exact State.Lawful.placeReports (s := s.takeEvents p n) (hs.of_same rfl rfl) p
  | notice =>
    refine hs.of_same ?_ ?_ <;> (unfold State.setNoticeMode; split <;> rfl)

/-! ### The commands -/

section
variable {s : State} (hs : s.Lawful)
include hs

theorem State.Lawful.setPort (p : Port) (v : PortState) : (s.setPort p v).Lawful := hs.of_same rfl rfl

theorem State.Lawful.settle (u : State) : (settle u s).Lawful := hs.of_same (by simp) (by simp)

theorem State.Lawful.arrive (p : Port) (frame : List Byte) : (s.arrive p frame).Lawful := by
  unfold State.arrive; split <;> exact hs.setPort ..

theorem State.Lawful.refusalTurn (p : Port) (frame : List Byte) : (refusalTurn p frame s).Lawful := by
  refine takeTurn_induction (P := State.Lawful) hs (hs.arrive ..) (hs.setPort ..) (hs.setPort ..) fun u hu _ _ => ?_
  unfold State.refuseFrame; split <;> exact hu.setPort ..

theorem State.Lawful.requestStep (i : Instr) (act : State → Reply) (ha : ∀ u : State, u.Lawful → (act u).next.Lawful) :
    (requestStep i act s).Lawful := by
  refine State.Lawful.settle ?_ s
  split
  · refine takeTurn_induction (P := State.Lawful) hs (hs.arrive ..) (hs.setPort ..) (hs.setPort ..) fun u hu _ _ => ?_
    exact (serve_next (P := State.Lawful) hu (ha u hu)).setPort ..
  · exact hs.refusalTurn ..

theorem State.Continues.lawful {u : State} (h : s.Continues u) : u.Lawful := by
  cases h with
  | sealing i =>
    unfold State.expireSeal; split
    · split
      · exact (hs.setStream ..).test i
      · exact hs
    · exact hs
    · exact hs
  | deadline k =>
    unfold State.expireDeadline; split
    · exact hs
    · split
      · split
        · unfold State.expireBatch; split
          · exact hs.of_same (by simp [State.markOverdue]) (by simp [State.markOverdue])
          · exact hs.takeover _
        · exact hs
      · exact hs
      · exact hs
  | report c =>
    unfold State.tryReport; split
    · exact hs.report c
    · exact hs
  | close i => exact hs.closeTest i
  | fence f => exact hs.fenceTest f
  | drain => exact hs.drainTest
  | slots d => exact hs.of_same (by simp) (by simp)
  | supply d => exact hs.of_same (by simp) (by simp)

end

theorem State.Lawful.powerFails {s : State} (hs : s.Lawful) : s.powerFails.Lawful := by
  unfold State.powerFails; split
  · exact hs.completeDrain 0
  · have draining : (s.setControl { s.control with device := .drain }).Lawful := hs.setControl _ rfl nofun
    exact (draining.foldl (fun _ i hu => hu.markAndTest i) _).drainTest
  · exact hs
  · exact hs

/-- Every command keeps the admission law. -/
theorem State.Moves.lawful {c : Instr} {s t : State} (h : s.Moves c t) (hs : s.Lawful) : t.Lawful := by
  cases h with
  | request => exact hs.requestStep _ _ fun u hu => (requestAct_served u c).lawful hu
  | arrival p frame => exact hs.arrive ..
  | invalid p frame => exact (hs.refusalTurn ..).settle s
  | read p n =>
    unfold State.readResponse; split
    · exact hs.setPort ..
    · split <;> exact hs.setPort ..
  | portReset | pulseEnd => exact hs.setPort ..
  | deassertion | tick => exact hs.setControl _ rfl id
  | reset =>
    split
    · exact (State.Lawful.powerOnReset s).completeDrain 0
    · exact .powerOnReset s
  | assertion =>
    split
    · exact hs
    · have asserted : (s.setPowerFail true).Lawful := hs.setControl _ rfl id
      exact asserted.powerFails.settle s
  | continues c u hu => exact (hu.lawful hs).settle s

/-- Settles O5: a write of a function record moves Ru by the change of its term (`State.Lawful.setTerm`), an admission
passes the budget and partition tests first, and the limits are set in CONFIG alone. -/
theorem admissionLawIsKept : Obligations.AdmissionLawIsKept := by
  unfold Obligations.AdmissionLawIsKept
  intro s t hs h
  rw [State.lawful_iff] at hs ⊢
  exact step_keeps (P := State.Lawful) (fun _ _ hu => hu.of_fewer rfl rfl le_rfl le_rfl le_rfl le_rfl rfl id)
    (fun _ _ _ hu hm => hm.lawful hu) hs h

end Sys2Proof.Machine
end

section
/-! The settlement of O6 to O12, O14, O15 and O2: what a command leaves of Device Control and of the queue of commands
(`State.Stays`), and a request's turn on its port. -/

namespace Sys2Proof.Machine

/-! ### What a command leaves of Device Control -/

/-- What every command but power-on reset leaves: the queue of commands, a locked geometry, and DRAIN and DRAINED. -/
structure State.Stays (s t : State) : Prop where
  pending : t.pending = s.pending
  locked : s.control.locked = true → t.control.locked = true ∧ t.control.geometry = s.control.geometry
  drain : s.device = .drain → t.device = .drain ∨ t.device = .drained
  drained : s.device = .drained → t.device = .drained

namespace State.Stays

variable {s t u : State}

theorem refl (s : State) : s.Stays s := ⟨rfl, fun h => ⟨h, rfl⟩, .inl, id⟩

theorem trans (h : s.Stays t) (k : t.Stays u) : s.Stays u where
  pending := k.pending.trans h.pending
  locked hs :=
    have ⟨ht, geometry⟩ := h.locked hs
    have ⟨hu, geometry'⟩ := k.locked ht
    ⟨hu, geometry'.trans geometry⟩
  drain hs := (h.drain hs).elim k.drain fun ht => .inr (k.drained ht)
  drained hs := k.drained (h.drained hs)

theorem of_kept (hc : t.control = s.control) (hp : t.pending = s.pending) : s.Stays t where
  pending := hp
  locked hs := by rw [hc]; exact ⟨hs, rfl⟩
  drain hs := by rw [State.device, hc]; exact .inl hs
  drained hs := by rw [State.device, hc]; exact hs

theorem of_outer (h : t.outer = s.outer) : s.Stays t := of_kept (outer_control h) (outer_pending h)

theorem foldl {α : Type} {g : State → α → State} (hg : ∀ (u : State) x, u.Stays (g u x)) (h : s.Stays t) (xs : List α) :
    s.Stays (xs.foldl g t) := List.foldlRecOn xs g h fun u hu x _ => hu.trans (hg u x)

/-- A write of Device Control that leaves what a lock and a drain fix. -/
theorem setControl (c : Control) (hl : s.control.locked = true → c.locked = true ∧ c.geometry = s.control.geometry)
    (hd : c.device = s.device) : s.Stays (s.setControl c) :=
  ⟨rfl, hl, fun h => .inl (hd.trans h), fun h => hd.trans h⟩

theorem completeDrain (s : State) (n : Nat) : s.Stays (s.completeDrain n) := by
  have outer := completeDrain_outer s n
  have control := outer_control outer
  exact ⟨(outer_pending outer).trans rfl, fun h => by rw [control]; exact ⟨h, rfl⟩, fun _ => .inr (by rw [State.device, control]),
    fun _ => by rw [State.device, control]⟩

theorem drainTest (s : State) : s.Stays s.drainTest := by
  rcases s.drainTest_cases with h | ⟨-, -, h⟩ <;> rw [h]
  · exact refl s
  · exact completeDrain s _

theorem unbind (s : State) (f k : Nat) : s.Stays (s.unbind f k) := by
  unfold State.unbind; split
  · exact of_kept rfl rfl
  · exact refl s

theorem bindTo (s : State) (f k i : Nat) : s.Stays (s.bindTo f k i) := by
  unfold State.bindTo; split
  · exact refl s
  · exact (unbind s f k).trans (of_kept rfl rfl)

theorem startClose (s : State) (i : Nat) (p : Port) : s.Stays (s.startClose i p) := by
  have unbound : s.Stays (s.unbindAll i) := by
    refine (refl s).foldl (fun u k => ?_) _
    unfold State.unbindFrom; split
    · exact of_kept rfl rfl
    · exact refl u
  exact unbound.trans (of_outer (by simp [State.startClose]))

theorem joinChain (s : State) (i r : Nat) (rec : Fragment) : s.Stays (s.joinChain i r rec) := by
  have chained : s.Stays (s.chainRecord i r rec) := by
    unfold State.chainRecord; dsimp only; split <;> exact of_kept rfl rfl
  unfold State.joinChain; dsimp only
  split <;> exact chained.trans (of_outer (by simp))

theorem pressureSeal (s : State) : s.Stays s.pressureSeal := by
  unfold State.pressureSeal; split
  · split
    · exact of_outer (by simp)
    · exact refl s
  · exact refl s

theorem fenceDiscard (s : State) (i : Nat) : s.Stays (s.fenceDiscard i) := by
  unfold State.fenceDiscard State.leaveSupplyIdle
  split <;> exact of_outer (by simp)

theorem startFence (s : State) (f : Nat) (m : FenceMode) (p : Port) : s.Stays (s.startFence f m p) := by
  have fenced : s.Stays (s.fence f m p) := of_outer rfl
  cases m with
  | discard => exact (fenced.foldl fenceDiscard (s.streamsOf f)).trans (of_outer (fenceTest_outer _ f))
  | drain =>
    have marked (u : State) (i : Nat) : u.Stays (u.markAndTest i) := of_outer (by simp)
    exact (fenced.foldl marked (s.streamsOf f)).trans (of_outer (fenceTest_outer _ f))

theorem supplyEntries (s : State) (p : Port) (es : List SegmentName) : s.Stays (State.supplyEntries p es s).2 := by
  induction es generalizing s with
  | nil => exact refl s
  | cons e es ih =>
    unfold State.supplyEntries; split
    · exact ih s
    · have entered : s.Stays (s.supplyEntry (segOf e)) := of_outer (by simp [State.supplyEntry, State.addFree])
      exact entered.trans (ih _)

theorem loadEntry (s : State) (e : LoadEntry) : s.Stays (s.loadEntry e).2 := by
  unfold State.loadEntry; split
  · unfold State.loadWritten; split
    · exact refl s
    · split
      · exact refl s
      · split
        · exact refl s
        · exact of_outer rfl
  · split
    · unfold State.loadRetired; split
      · exact refl s
      · split
        case h_1 => exact of_outer rfl
        all_goals exact refl s
    · exact refl s

theorem loadEntries (s : State) (es : List LoadEntry) : s.Stays (State.loadEntries es s).2 := by
  induction es generalizing s with
  | nil => exact refl s
  | cons e es ih => exact (loadEntry s e).trans (ih _)

theorem invalidateEntries (s : State) (es : List StaleEntry) : s.Stays (State.invalidateEntries es s).2 := by
  induction es generalizing s with
  | nil => exact refl s
  | cons e es ih =>
    have entered : s.Stays (s.setSegment (staleSeg e) ((s.segment (staleSeg e)).invalidate e.count.toNat).1) := of_outer rfl
    exact entered.trans (ih _)

theorem applyGeometry (s : State) (g : Geometry) (hl : s.control.locked = false) : s.Stays (s.applyGeometry g) := by
  have drop (u : State) (d : Nat) : u.Stays (u.dropCore d) := by
    unfold State.dropCore; split
    · exact of_outer rfl
    · exact refl u
  have set : s.Stays (s.setControl { s.control with geometry := some g }) :=
    setControl _ (fun h => by rw [hl] at h; cases h) rfl
  exact set.foldl drop _

theorem done (s : State) (b : Batch) (k : Nat) : s.Stays (s.done b k).1 := by
  unfold State.done; dsimp only
  refine (of_outer ?_).trans (drainTest _)
  simp [foldl_keeps State.outer State.makeDurable makeDurable_outer]

theorem fail (s : State) (b : Batch) : s.Stays (s.fail b) := by
  unfold State.fail; dsimp only
  refine (of_outer ?_).trans (drainTest _)
  simp

theorem discard (s : State) (i : Nat) : s.Stays (s.discard i).1 := by
  unfold State.discard; dsimp only
  refine (of_outer ?_).trans (drainTest _)
  simp [State.leaveHalt]

theorem takeover (s : State) (k : Core) : s.Stays (s.takeover k) := by
  have failed : s.Stays (s.failCore k) := by cases k <;> exact of_kept rfl rfl
  exact failed.trans (of_outer (s.takeover_outer k))

end State.Stays

/-- Every accepted request leaves what is fixed. -/
theorem State.Served.stays {s t : State} (h : s.Served t) : s.Stays t := by
  cases h with
  | same => exact .refl s
  | wait | violation | unfence | reclaimWait | intake | segment => exact .of_outer rfl
  | take => exact .of_kept rfl rfl
  | admitTenant f i r w =>
    have taken : s.Stays (s.takeBudget f w.n) := .of_kept rfl rfl
    exact (taken.trans (.joinChain _ i r _)).trans (.pressureSeal _)
  | admitReclaim i r w =>
    have taken : s.Stays (s.setBudget { s.budget with reclaimHeld := s.budget.reclaimHeld + w.n }) := .of_kept rfl rfl
    exact taken.trans (.joinChain _ i r _)
  | flush f tag =>
    refine .of_outer ?_
    simp [State.startFlush, foldl_keeps State.outer State.markAndTest State.markAndTest_outer]
  | openStream i v cls owner => cases cls <;> exact .of_kept rfl rfl
  | bind => exact .bindTo ..
  | unbind => exact .unbind ..
  | close => exact .startClose ..
  | resume => exact .of_outer (by simp [State.resume, State.leaveHalt])
  | discard => exact .discard ..
  | settings => exact .of_outer (by simp [State.applySettings])
  | fence => exact .startFence ..
  | supply => exact .supplyEntries ..
  | done => exact .done ..
  | fail => exact .fail ..
  | invalidate => exact .invalidateEntries ..
  | victims ns => exact .of_outer (foldl_keeps State.outer State.makeVictim (fun _ _ => rfl) ns s)
  | release => exact .of_outer (by simp)
  | geometry g hl => exact .applyGeometry s g hl
  | lock => exact .setControl _ (fun _ => ⟨rfl, rfl⟩) rfl
  | limit => exact .setControl _ (fun h => ⟨h, rfl⟩) rfl
  | dieMap cores => exact .of_outer (foldl_keeps State.outer (State.assignDie cores) (fun _ _ => rfl) _ s)
  | load => exact .loadEntries ..
  | start hd =>
    exact ⟨rfl, fun h => ⟨h, rfl⟩, fun h => absurd (hd.symm.trans h) nofun, fun h => absurd (hd.symm.trans h) nofun⟩
  | restart hd =>
    refine ⟨rfl, fun h => ⟨h, rfl⟩, fun h => ?_, fun h => ?_⟩ <;> rw [h] at hd <;> simp at hd
  | collect => exact .of_outer (by simp [State.takeEvents])
  | notice => refine .of_outer ?_; unfold State.setNoticeMode; split <;> rfl

theorem arrive_stays (s : State) (p : Port) (frame : List Byte) : s.Stays (s.arrive p frame) := by
  unfold State.arrive; split <;> exact .of_outer rfl

theorem refusalTurn_stays (s : State) (p : Port) (frame : List Byte) : s.Stays (refusalTurn p frame s) := by
  refine takeTurn_induction (P := s.Stays) (.refl s) (arrive_stays ..) (.of_outer rfl) (.of_outer rfl) fun u hu _ _ => ?_
  refine hu.trans ?_
  unfold State.refuseFrame; split <;> exact .of_outer rfl

theorem requestStep_stays (s : State) (i : Instr) (act : State → Reply) (ha : ∀ u : State, u.Stays (act u).next) :
    s.Stays (requestStep i act s) := by
  refine State.Stays.trans ?_ (.of_outer (settle_outer s _))
  split
  · refine takeTurn_induction (P := s.Stays) (.refl s) (arrive_stays ..) (.of_outer rfl) (.of_outer rfl) fun u hu _ _ => ?_
    exact hu.trans ((serve_next (P := u.Stays) (.refl u) (ha u)).trans (.of_outer rfl))
  · exact refusalTurn_stays ..

theorem State.Continues.stays {s u : State} (h : s.Continues u) : s.Stays u := by
  cases h with
  | sealing i =>
    refine .of_outer ?_
    unfold State.expireSeal; split
    · split <;> simp
    · rfl
    · rfl
  | deadline k =>
    unfold State.expireDeadline; split
    · exact .refl s
    · split
      · split
        · unfold State.expireBatch; split
          · exact .of_outer (by simp [State.markOverdue])
          · exact .takeover s _
        · exact .refl s
      · exact .refl s
      · exact .refl s
  | report c => refine .of_outer ?_; unfold State.tryReport; split <;> simp
  | close i => exact .of_outer (by simp)
  | fence f => exact .of_outer (by simp)
  | drain => exact .drainTest s
  | slots d => exact .of_outer (by simp)
  | supply d => exact .of_outer (by simp)

theorem State.powerFails_stays (s : State) : s.Stays s.powerFails := by
  unfold State.powerFails; split
  · exact .completeDrain s 0
  · next hd =>
    have draining : s.Stays (s.setControl { s.control with device := .drain }) :=
      ⟨rfl, fun h => ⟨h, rfl⟩, fun h => absurd (hd.symm.trans h) nofun, fun h => absurd (hd.symm.trans h) nofun⟩
    have marked (u : State) (i : Nat) : u.Stays (u.markAndTest i) := .of_outer (by simp)
    exact (draining.foldl marked _).trans (.drainTest _)
  · exact .refl s
  · exact .refl s

/-- Every command but power-on reset leaves what is fixed. -/
theorem State.Moves.stays {c : Instr} {s t : State} (h : s.Moves c t) (hc : c ≠ .powerOnReset) : s.Stays t := by
  cases h with
  | request => exact requestStep_stays _ _ _ fun u => (requestAct_served u c).stays
  | arrival => exact arrive_stays ..
  | invalid => exact (refusalTurn_stays ..).trans (.of_outer (settle_outer s _))
  | read p n =>
    refine .of_outer ?_
    unfold State.readResponse; split
    · rfl
    · split <;> rfl
  | portReset | pulseEnd => exact .of_outer rfl
  | reset => exact absurd rfl hc
  | assertion =>
    split
    · exact .refl s
    · have asserted : s.Stays (s.setPowerFail true) := .setControl _ (fun h => ⟨h, rfl⟩) rfl
      exact (asserted.trans (State.powerFails_stays _)).trans (.of_outer (settle_outer s _))
  | deassertion | tick => exact .setControl _ (fun h => ⟨h, rfl⟩) rfl
  | continues c u hu => exact hu.stays.trans (.of_outer (settle_outer s u))

theorem State.powerOnReset_pending (s : State) (t : State) (h : s.Moves .powerOnReset t) : t.pending = s.pending := by
  cases h with
  | request _ hc => cases hc
  | continues _ u hu => exact (hu.stays.trans (.of_outer (settle_outer s u))).pending
  | reset =>
    split
    · exact (State.Stays.completeDrain s.powerOnReset 0).pending
    · rfl

/-- Settles O8: `exec` gives every command a meaning (`exec_moves`), and none of them writes the queue. -/
theorem commandsLeaveTheQueue : Obligations.CommandsLeaveTheQueue := by
  unfold Obligations.CommandsLeaveTheQueue
  intro c s
  obtain ⟨t, ht, moves⟩ := exec_moves c s
  refine ⟨t, ht, ?_⟩
  by_cases hc : c = .powerOnReset
  · subst hc; exact s.powerOnReset_pending t moves
  · exact (moves.stays hc).pending

/-- Settles O9: the geometry's two writers pass the check of the lock first. -/
theorem lockedGeometryIsKept : Obligations.LockedGeometryIsKept := by
  unfold Obligations.LockedGeometryIsKept
  exact fun c s t hc hs h => ((State.moves_of_exec h).stays hc).locked hs

/-- Settles O10: START and RESTART pass the device-state check first, and a completed drain is DRAINED. -/
theorem drainIsLeftByReset : Obligations.DrainIsLeftByReset := by
  unfold Obligations.DrainIsLeftByReset
  exact fun c s t hc h =>
    have stays := (State.moves_of_exec h).stays hc
    ⟨stays.drain, stays.drained⟩

/-- Settles O6. -/
theorem resetMeetsTheInvariants : Obligations.ResetMeetsTheInvariants := by
  unfold Obligations.ResetMeetsTheInvariants
  exact ⟨rfl, rfl, by decide⟩

/-- Settles O7. -/
theorem stepTakesTheFrontCommand : Obligations.StepTakesTheFrontCommand := by
  unfold Obligations.StepTakesTheFrontCommand
  exact ⟨fun _ _ _ => rfl, fun _ => rfl⟩

/-! ### Ports -/

theorem State.arrive_room {s : State} {p : Port} (frame : List Byte) (h : (s.port p).requests.length < Config.portBuffers) :
    s.arrive p frame = s.setPort p { s.port p with requests := (s.port p).requests ++ [frame], link := .taken } := if_pos h

/-- Settles O11. -/
theorem linkAndClockCommands : Obligations.LinkAndClockCommands := by
  unfold Obligations.LinkAndClockCommands
  refine ⟨fun p frame s h => ?_, fun p frame s h => ?_, fun _ _ => rfl, fun _ _ => rfl, fun _ => rfl, fun _ => rfl⟩
  · exact congrArg _ (State.arrive_room frame h)
  · exact congrArg _ (if_neg (Nat.not_lt.mpr h))

/-- Settles O12, by the oldest response. -/
theorem responsesAreReadWholeOrLeft : Obligations.ResponsesAreReadWholeOrLeft := by
  unfold Obligations.ResponsesAreReadWholeOrLeft
  intro p n s
  have meaning : exec (.responseRead p n) s = .next (s.readResponse p n) := rfl
  rw [meaning]
  unfold State.readResponse
  refine ⟨fun h => by rw [h]; rfl, fun r rest h => ⟨fun hn => ?_, fun hn => ?_⟩⟩
  · simp [h, hn]
  · simp [h, Nat.not_le.mpr hn, State.setLink]

end Sys2Proof.Machine
end

section
/-! The settlement of O1, O2 and O13 to O15: the frames of requests, and what a port does with a frame and a request. -/

namespace Sys2Proof.Machine

/-! ### Frames -/

/-- R165 check 2: the payload of a well-formed command fits a frame. -/
theorem payload_length_le (i : Instr) (h : i.wellFormed = true) : i.payload.length ≤ Config.maxPayload := by
  cases i with
  | supply v es => exact Laws.Payload.supply v es h
  | invalidate v es => exact Laws.Payload.invalidate v es h
  | setDieMap v cores => exact Laws.Payload.setDieMap v cores h
  | loadSegment v es => exact Laws.Payload.loadSegment v es h
  | _ => exact Nat.le_of_ble_eq_true rfl

/-- A counted list reads back, where its count fits the byte. -/
theorem readCounted_countedBytes {α : Type} (entry : α → List Byte) (w : Nat) (hw : ∀ e, (entry e).length = w)
    (es : List α) (hl : es.length ≤ 255) (build : List Byte → Instr) :
    readCounted w (countedBytes entry es) build = .request (build (es.flatMap entry)) := by
  have count : (BitVec.ofNat 8 es.length).toNat = es.length := by
    rw [BitVec.toNat_ofNat, Nat.mod_eq_of_lt]; omega
  simp [readCounted, countedBytes, length_entries entry w hw, count]

/-- Checks 4 and 5 of R165 give a well-formed request back from its kind and payload. -/
theorem readPayload_payload (i : Instr) (hr : i.isRequest = true) (hw : i.wellFormed = true) :
    readPayload i.via i.kind i.payload = .request i := by
  cases i with
  | supply v es =>
    have hl : es.length ≤ 255 := of_decide_eq_true hw
    exact (readCounted_countedBytes SegmentName.bytes 3 (fun _ => rfl) es hl fun t => .supply v (readSegments t)).trans
      (congrArg (fun l => Reading.request (.supply v l)) (readSegments_bytes es))
  | invalidate v es =>
    have hl : es.length ≤ 255 := of_decide_eq_true hw
    exact (readCounted_countedBytes StaleEntry.bytes 5 (fun _ => rfl) es hl fun t => .invalidate v (readStale t)).trans
      (congrArg (fun l => Reading.request (.invalidate v l)) (readStale_bytes es))
  | loadSegment v es =>
    have hl : es.length ≤ 106 := of_decide_eq_true hw
    exact (readCounted_countedBytes LoadEntry.bytes 12 (fun _ => rfl) es (by omega) fun t => .loadSegment v (readLoads t)).trans
      (congrArg (fun l => Reading.request (.loadSegment v l)) (readLoads_bytes es))
  | setDieMap v cores => exact if_pos (of_decide_eq_true hw)
  | batchResultFailed v slot gen result =>
    have hn : result ≠ 0 := of_decide_eq_true hw
    simpa [readPayload, Instr.kind, Instr.payload, Instr.via, bytes16] using hn
  | requestFrameArrival | invalidFrame | responseRead | portReset | powerOnReset | powerFailAssertion
  | powerFailDeassertion | msTick | sealExpiry | batchDeadlineExpiry | fragmentDone | flushDone | streamClosed
  | fenceComplete | drainComplete | dieSlotGrant | waitSupplyServe | noticePulseEnd => cases hr
  | _ =>
    simp [readPayload, readHalf, readEmpty, readSegmentName, Instr.kind, Instr.payload, Instr.via, SegmentName.bytes,
      bytes16, bytes32, bytes48, bytes64]

/-- Checks 1 to 3 of R165 pass a frame that was built for a payload that fits, and leave that payload. -/
theorem readFrame_requestFrame (p : Port) (crc : Bool) (kind : Byte) (payload : List Byte)
    (h : payload.length ≤ Config.maxPayload) :
    readFrame p (requestFrame crc kind payload) = readPayload ⟨p, crc⟩ kind payload := by
  have declared : (BitVec.ofNat 16 payload.length).toNat = payload.length := by
    have : payload.length ≤ 1280 := h
    rw [BitVec.toNat_ofNat, Nat.mod_eq_of_lt]; omega
  cases crc <;> simp [requestFrame, withCrc, readFrame, bodyChecks, bytes16, flagsByte, declared, h]

theorem Instr_frame_read (i : Instr) (hr : i.isRequest = true) (hw : i.wellFormed = true) :
    readFrame i.via.port i.frame = .request i :=
  (readFrame_requestFrame _ _ _ _ (payload_length_le i hw)).trans (readPayload_payload i hr hw)

/-- Settles O1. -/
theorem requestFramesReadBack : Obligations.RequestFramesReadBack := by
  unfold Obligations.RequestFramesReadBack
  exact Instr_frame_read

/-! ### A turn on a ready port -/

theorem State.ready_iff (s : State) (p : Port) :
    s.ready p = true ↔ (s.port p).requests = [] ∧ (s.port p).responses.length < Config.portBuffers := by
  simp [State.ready, State.canRespond]

/-- On a ready port a frame arrives and is executed in the one step. -/
theorem takeTurn_ready {s : State} {p : Port} (h : s.ready p = true) (frame : List Byte) (isThis : List Byte → Bool)
    (run : State → State) : takeTurn p frame isThis run s = run (s.setLink p .taken) := by
  obtain ⟨empty, room⟩ := (s.ready_iff p).mp h
  have respond : s.canRespond p = true := decide_eq_true room
  simp [takeTurn, empty, respond]

/-- A frame that arrived on a ready port is executed as it would have been with its arrival. -/
theorem takeTurn_arrived {s : State} {p : Port} (h : s.ready p = true) (frame : List Byte) (isThis : List Byte → Bool)
    (this : isThis frame = true) (run : State → State) :
    takeTurn p frame isThis run (s.arrive p frame) = takeTurn p frame isThis run s := by
  obtain ⟨empty, room⟩ := (s.ready_iff p).mp h
  have respond : s.canRespond p = true := decide_eq_true room
  rw [takeTurn_ready h]
  have arrived : s.arrive p frame = s.setPort p { s.port p with requests := [frame], link := .taken } := by
    rw [State.arrive_room frame (by rw [empty]; decide), empty]; rfl
  have drop : (s.arrive p frame).dropRequest p = s.setLink p .taken := by
    rw [arrived]; simp [State.dropRequest, State.setLink, empty]
  have canRespond : (s.arrive p frame).canRespond p = true := by
    rw [arrived]; simpa [State.canRespond] using room
  have requests : ((s.arrive p frame).port p).requests = [frame] := by rw [arrived]; simp
  simp [takeTurn, requests, this, canRespond, drop]

/-- The end of a step reads the state it came from by the notice conditions alone. -/
theorem settle_congr {s s' : State} (h : ∀ p, s.notice p = s'.notice p) (t : State) : settle s t = settle s' t := by
  simp only [settle, settlePort, h]

theorem arrive_notice (s : State) (p : Port) (frame : List Byte) (q : Port) : (s.arrive p frame).notice q = s.notice q := by
  have kept (v : PortState) (hv : v.events = (s.port p).events) : (s.setPort p v).notice q = s.notice q := by
    by_cases hq : q = p
    · subst hq; simp [State.notice, hv]
    · simp [State.notice, State.setPort_port, hq]
  unfold State.arrive; split <;> exact kept _ rfl

theorem exec_invalidFrame (p : Port) (frame : List Byte) (s : State) :
    exec (.invalidFrame p frame) s = .next (settle s (refusalTurn p frame s)) := rfl

/-- Settles O2: what arrived is the row's request (`readFrame` of its frame), and its turn comes next. -/
theorem arrivalThenExecution : Obligations.ArrivalThenExecution := by
  unfold Obligations.ArrivalThenExecution
  have arrived (p : Port) (frame : List Byte) (s : State) (h : s.ready p = true) :
      ((s.arrive p frame).port p).requests = [frame] := by
    obtain ⟨empty, -⟩ := (s.ready_iff p).mp h
    rw [State.arrive_room frame (by rw [empty]; decide), empty]; simp
  refine ⟨fun i s hr hw h => ⟨_, rfl, arrived _ _ s h, ?_⟩, fun p frame s h => ⟨_, rfl, arrived _ _ s h, ?_⟩⟩
  · rw [exec_of_isRequest hr, exec_of_isRequest hr, requestStep, requestStep, if_pos hw, if_pos hw,
      takeTurn_arrived h _ _ (by simp [Instr_frame_read i hr hw]), settle_congr (arrive_notice s _ _)]
  · rw [exec_invalidFrame, exec_invalidFrame, refusalTurn, refusalTurn, takeTurn_arrived h _ _ (by simp),
      settle_congr (arrive_notice s _ _)]

/-- A frame's arrival starts no pulse. -/
theorem settle_arrive (s : State) (p : Port) (frame : List Byte) : settle s (s.arrive p frame) = s.arrive p frame :=
  settle_eq_self _ _ fun q => by rw [arrive_notice]; cases s.notice q <;> simp

theorem settle_self (s : State) : settle s s = s := settle_quiet s s rfl fun _ => rfl

/-- Settles O14: a request executes against the oldest waiting frame alone, with a response buffer free. -/
theorem requestsWaitTheirTurn : Obligations.RequestsWaitTheirTurn := by
  unfold Obligations.RequestsWaitTheirTurn
  intro i s f rest hr hw waiting
  have meaning : exec i s = .next (settle s (takeTurn i.via.port i.frame (fun f => readFrame i.via.port f = .request i)
      (fun t => placeResponse i.via.port i.kind i.via.crc (serve i.via.port i.kind (requestAct i) t)) s)) := by
    rw [exec_of_isRequest hr, requestStep, if_pos hw]
  rw [meaning]
  refine ⟨fun this full => ?_, fun other => ?_⟩
  · simp [takeTurn, waiting, this, full, settle_self]
  · have waits : takeTurn i.via.port i.frame (fun f => readFrame i.via.port f = .request i)
        (fun t => placeResponse i.via.port i.kind i.via.crc (serve i.via.port i.kind (requestAct i) t)) s =
          s.arrive i.via.port i.frame := by simp [takeTurn, waiting, other]
    rw [waits, settle_arrive]; rfl

/-! ### Frames that fail the checks -/

/-- A frame that meets a refusal is answered with it, and nothing else changes. -/
theorem exec_invalidFrame_refused {p : Port} {frame : List Byte} {s : State} {c : Code} (h : s.ready p = true)
    (hc : s.frameRefusal p frame = some c) : exec (.invalidFrame p frame) s = .next (s.setPort p { s.port p with
      responses := (s.port p).responses ++ [responseFrame (headerOf frame).1 (headerOf frame).2 c.byte []]
      link := .taken }) := by
  have linked : (s.setLink p .taken).frameRefusal p frame = some c := hc
  have placed : refusalTurn p frame s = s.setPort p { s.port p with
      responses := (s.port p).responses ++ [responseFrame (headerOf frame).1 (headerOf frame).2 c.byte []]
      link := .taken } := by
    rw [refusalTurn, takeTurn_ready h, State.refuseFrame, linked]
    simp [placeResponse, State.refuse]
  rw [exec_invalidFrame, placed, settle_quiet]
  · rfl
  · intro q; rw [State.setPort_port]; split
    · subst_vars; rfl
    · rfl

/-- Checks 2 and 3 of R165, by what the header declares. -/
theorem bodyChecks_iff (crc : Bool) (kind flags l0 l1 : Byte) (declared : Nat) (body : List Byte) :
    bodyChecks crc declared [kind, flags, l0, l1] body = true ↔
      (declared ≤ Config.maxPayload ∧ body.length = declared + (if crc then 1 else 0)) ∧
        (crc = true → crc8 ((kind :: flags :: l0 :: l1 :: body).take (4 + declared)) = body.getD declared 0) := by
  have whole : (kind :: flags :: l0 :: l1 :: body).take (4 + declared) = [kind, flags, l0, l1] ++ body.take declared := by
    rw [Nat.add_comm]; rfl
  rw [whole]
  cases crc <;> simp [bodyChecks, and_assoc]

section
variable {pl : List Byte} {i : Instr}

theorem readHalf_request {build : Half → Instr} (h : readHalf pl build = .request i) :
    pl.length = 2 ∧ ∃ x, i = build x := by
  unfold readHalf at h; split at h
  · cases h; exact ⟨rfl, _, rfl⟩
  · cases h

theorem readSegmentName_request {build : SegmentName → Instr} (h : readSegmentName pl build = .request i) :
    pl.length = 3 ∧ ∃ x, i = build x := by
  unfold readSegmentName at h; split at h
  · cases h; exact ⟨rfl, _, rfl⟩
  · cases h

theorem readEmpty_request {j : Instr} (h : readEmpty pl j = .request i) : pl.length = 0 ∧ i = j := by
  unfold readEmpty at h; split at h
  · cases h; exact ⟨rfl, rfl⟩
  · cases h

theorem readCounted_request {w : Nat} {build : List Byte → Instr} (h : readCounted w pl build = .request i) :
    pl.length = 1 + w * (pl.getD 0 0).toNat ∧ ∃ x, i = build x := by
  unfold readCounted at h; split at h
  · cases h
  · split at h
    · next hl => cases h; exact ⟨by simp [hl, Nat.add_comm], _, rfl⟩
    · cases h

/-- Checks 4 and 5: what is read as a request has the kind, and one of the payload lengths, of Table 11-3. -/
theorem readPayload_request {v : Via} {kind : Byte} (h : readPayload v kind pl = .request i) :
    i.kind.toNat = kind.toNat ∧ pl.length ∈ payloadLengths kind.toNat (pl.getD 0 0).toNat := by
  unfold readPayload at h
  split at h
  case h_35 => cases h
  all_goals rename_i hk; rw [hk]
  case h_7 | h_8 | h_9 | h_12 | h_28 | h_29 =>
    obtain ⟨length, _, rfl⟩ := readHalf_request h
    exact ⟨rfl, by simp [payloadLengths, length]⟩
  case h_18 | h_19 | h_20 | h_30 =>
    obtain ⟨length, _, rfl⟩ := readSegmentName_request h
    exact ⟨rfl, by simp [payloadLengths, length]⟩
  case h_22 | h_26 | h_27 | h_32 =>
    obtain ⟨length, rfl⟩ := readEmpty_request h
    exact ⟨rfl, by simp [payloadLengths, length]⟩
  case h_13 | h_16 | h_25 =>
    obtain ⟨length, _, rfl⟩ := readCounted_request h
    exact ⟨rfl, by simp only [payloadLengths, length, List.mem_singleton]⟩
  case h_24 =>
    split at h
    · next length => cases h; exact ⟨rfl, by simp [payloadLengths, length, Config.dies]⟩
    · cases h
  case h_15 =>
    split at h
    · split at h <;> cases h <;> exact ⟨rfl, by simp [payloadLengths]⟩
    · cases h
  case h_14 =>
    split at h
    · cases h; exact ⟨rfl, by simp [payloadLengths]⟩
    · cases h; exact ⟨rfl, by simp [payloadLengths]⟩
    · cases h
  all_goals
    split at h
    · cases h; exact ⟨rfl, by simp [payloadLengths]⟩
    · cases h

/-- A kind whose payload may be empty is none that declares a count. -/
theorem payloadLengths_zero {kind c : Nat} (c' : Nat) (h : 0 ∈ payloadLengths kind c) : 0 ∈ payloadLengths kind c' := by
  unfold payloadLengths at h
  split at h
  case h_13 | h_16 | h_25 => have := List.mem_singleton.mp h; omega
  case h_35 => cases h
  all_goals exact h

/-- Check 4: a kind that is none of Table 11-3. -/
theorem readPayload_unknown (v : Via) {kind : Byte} (h : kind = 0 ∨ 0x22 < kind.toNat) :
    readPayload v kind pl = .unknownKind := by
  have out : kind.toNat = 0 ∨ 0x22 < kind.toNat := h.imp_left fun h => by rw [h]; rfl
  unfold readPayload
  split <;> first | rfl | omega

/-- A kind of Table 11-3 is known. -/
theorem readPayload_known (v : Via) {kind : Byte} (hl : 1 ≤ kind.toNat) (hu : kind.toNat ≤ 0x22) :
    readPayload v kind pl ≠ .unknownKind := by
  have half (build : Half → Instr) : readHalf pl build ≠ .unknownKind := by unfold readHalf; split <;> nofun
  have segment (build : SegmentName → Instr) : readSegmentName pl build ≠ .unknownKind := by
    unfold readSegmentName; split <;> nofun
  have empty (j : Instr) : readEmpty pl j ≠ .unknownKind := by unfold readEmpty; split <;> nofun
  have counted (w : Nat) (build : List Byte → Instr) : readCounted w pl build ≠ .unknownKind := by
    unfold readCounted; split
    · nofun
    · split <;> nofun
  unfold readPayload
  split
  case h_7 | h_8 | h_9 | h_12 | h_28 | h_29 => exact half _
  case h_18 | h_19 | h_20 | h_30 => exact segment _
  case h_22 | h_26 | h_27 | h_32 => exact empty _
  case h_13 | h_16 | h_25 => exact counted _ _
  case h_35 => grind
  all_goals split <;> nofun

end

/-- Settles O13: the refusal is read off the frame, check by check (`bodyChecks_iff`, `readPayload_request`). -/
theorem invalidFramesAreRefused : Obligations.InvalidFramesAreRefused := by
  unfold Obligations.InvalidFramesAreRefused
  intro p frame s ready
  refine ⟨fun short => ?_, fun kind flags l0 l1 body hf => ?_⟩
  · have bad : readFrame p frame = .badFrame ∧ headerOf frame = (0, false) := by
      match frame, short with
      | [], _ | [_], _ | [_, _], _ | [_, _, _], _ => exact ⟨rfl, rfl⟩
      | _ :: _ :: _ :: _ :: _, short => simp at short; omega
    obtain ⟨read, header⟩ := bad
    have refusal : s.frameRefusal p frame = some .frame := by rw [State.frameRefusal, read]
    have answer := exec_invalidFrame_refused ready refusal
    rw [header] at answer
    exact answer
  have checks := bodyChecks_iff (flags.getLsbD 0) kind flags l0 l1 (join16 l0 l1).toNat body
  rw [← hf] at checks
  have refused {c : Code} (hc : s.frameRefusal p frame = some c) : exec (.invalidFrame p frame) s =
      .next (s.setPort p { s.port p with
        responses := (s.port p).responses ++ [responseFrame kind (flags.getLsbD 0) c.byte []], link := .taken }) := by
    have answer := exec_invalidFrame_refused ready hc
    rw [hf] at answer ⊢
    exact answer
  have failing (h : ¬ bodyChecks (flags.getLsbD 0) (join16 l0 l1).toNat [kind, flags, l0, l1] body = true) :
      s.frameRefusal p frame = some .frame := by
    simp only [State.frameRefusal, hf, readFrame]
    rw [if_neg h]
  have passing (h : bodyChecks (flags.getLsbD 0) (join16 l0 l1).toNat [kind, flags, l0, l1] body = true) :
      readFrame p frame = readPayload ⟨p, flags.getLsbD 0⟩ kind (body.take (join16 l0 l1).toNat) := by
    simp only [hf, readFrame]
    rw [if_pos h]
  have kindOf {i : Instr} (h : readFrame p frame = .request i) : i.kind = kind := by
    by_cases hb : bodyChecks (flags.getLsbD 0) (join16 l0 l1).toNat [kind, flags, l0, l1] body = true
    · rw [passing hb] at h
      exact BitVec.eq_of_toNat_eq (readPayload_request h).1
    · simp only [hf, readFrame] at h
      rw [if_neg hb] at h
      cases h
  refine ⟨fun hw => ?short, fun hw hs => ?unsound, fun hw hs hk => ?unknown, fun hw hs hl hu hd => ?length,
    fun i hi hp => ?unpermitted, fun i hi hp hb => ?barred⟩
  case short => exact refused (failing fun h => hw (checks.mp h).1)
  case unsound => exact refused (failing fun h => hs (checks.mp h).2)
  case unknown =>
    refine refused ?_
    rw [State.frameRefusal, passing (checks.mpr ⟨hw, hs⟩), readPayload_unknown _ hk]
  case length =>
    refine refused ?_
    have read := passing (checks.mpr ⟨hw, hs⟩)
    cases reading : readFrame p frame with
    | badFrame => rw [State.frameRefusal, reading]
    | unknownKind => exact absurd (read.symm.trans reading) (readPayload_known _ hl hu)
    | request i =>
      obtain ⟨-, listed⟩ := readPayload_request (read.symm.trans reading)
      have taken : (body.take (join16 l0 l1).toNat).length = (join16 l0 l1).toNat := by
        rw [List.length_take, hw.2]; omega
      rw [taken] at listed
      refine absurd ?_ hd
      by_cases zero : (join16 l0 l1).toNat = 0
      · rw [zero] at listed ⊢; exact payloadLengths_zero _ listed
      · rwa [List.getD_eq_getElem?_getD, List.getElem?_take_of_lt (by omega), ← List.getD_eq_getElem?_getD] at listed
  case unpermitted =>
    refine refused ?_
    rw [State.frameRefusal, hi]
    simp [kindOf hi, hp]
  case barred =>
    refine refused ?_
    rw [State.frameRefusal, hi]
    simp [kindOf hi, hp, hb]

/-! ### Requests that the port or the device state refuses -/

section
variable {i : Instr}

/-- Each request of RUN alone begins with the check of the device state; likewise the lists that follow. -/
theorem requestAct_whileRun (h : i.kind.toNat ∈ [0x01, 0x02, 0x03, 0x04, 0x0B, 0x0C, 0x11]) (s : State) :
    ∃ k, requestAct i s = s.whileRun k := by
  cases i with
  | submit | flushFunction | openStream | bind | fenceFunction | unfenceFunction | nominate => exact ⟨_, rfl⟩
  | _ => exact absurd h (by simp [Instr.kind])

theorem requestAct_whileRunOrDrain
    (h : i.kind.toNat ∈ [0x05, 0x06, 0x07, 0x08, 0x09, 0x0E, 0x0F, 0x10, 0x12, 0x13, 0x14]) (s : State) :
    ∃ k, requestAct i s = s.whileRunOrDrain k := by
  cases i with
  | unbind | setStreamMode | closeStream | resumeStream | discardStream | takeBatch | takeBatchRepeat | batchResultDone
  | batchResultFailed | invalidate | returnSegment | releaseSegment | retireSegment => exact ⟨_, rfl⟩
  | _ => exact absurd h (by simp [Instr.kind])

theorem requestAct_beforeDrain (h : i.kind.toNat ∈ [0x0A, 0x17, 0x1B]) (s : State) :
    ∃ k, requestAct i s = s.beforeDrain k := by
  cases i with
  | setFunction | setLimits | restart => exact ⟨_, rfl⟩
  | _ => exact absurd h (by simp [Instr.kind])

theorem requestAct_untilDrained (h : i.kind.toNat ∈ [0x0D, 0x22]) (s : State) :
    ∃ k, requestAct i s = s.untilDrained k := by
  cases i with
  | supply | setNotice => exact ⟨_, rfl⟩
  | _ => exact absurd h (by simp [Instr.kind])

theorem requestAct_whileConfig (h : i.kind.toNat ∈ [0x15, 0x16, 0x18, 0x19, 0x1A]) (s : State) :
    ∃ k, requestAct i s = s.whileConfig k := by
  cases i with
  | setGeometry | lockGeometry | setDieMap | loadSegment | start => exact ⟨_, rfl⟩
  | _ => exact absurd h (by simp [Instr.kind])

end

/-- Settles O15: the port's checks come first (`serve`), and the check of the device state before the owner's others. -/
theorem unpermittedRequestsChangeNothing : Obligations.UnpermittedRequestsChangeNothing := by
  unfold Obligations.UnpermittedRequestsChangeNothing
  intro i s hr hw ready
  have refused {c : Code} (h : serve i.via.port i.kind (requestAct i) (s.setLink i.via.port .taken) =
      (s.setLink i.via.port .taken).refuse c) : exec i s = .next (s.answered i c []) := by
    rw [exec_of_isRequest hr, serve_refused i _ s c hw ready h]
  refine ⟨fun hp => refused ?_, fun hp hb => refused ?_, fun hp hb => ?_⟩
  · simp [serve, hp]
  · have barred : (s.setLink i.via.port .taken).barred i.via.port i.kind = true := hb
    simp [serve, hp, barred]
  have owner {c : Code} (h : requestAct i (s.setLink i.via.port .taken) = (s.setLink i.via.port .taken).refuse c) :
      exec i s = .next (s.answered i c []) := by
    have free : (s.setLink i.via.port .taken).barred i.via.port i.kind = false := hb
    exact refused (by simpa [serve, hp, free] using h)
  have device : (s.setLink i.via.port .taken).device = s.device := rfl
  refine ⟨fun hk => ?_, fun hk => ?_, fun hk hd => ?_, fun hk hd => ?_, fun hk => ?_⟩
  · obtain ⟨k, act⟩ := requestAct_whileRun hk (s.setLink i.via.port .taken)
    refine ⟨fun hd => owner ?_, fun hd => owner ?_⟩
    · rw [act, State.whileRun, device, hd]
    · rcases hd with hd | hd <;> rw [act, State.whileRun, device, hd]
  · obtain ⟨k, act⟩ := requestAct_whileRunOrDrain hk (s.setLink i.via.port .taken)
    refine ⟨fun hd => owner ?_, fun hd => owner ?_⟩ <;> rw [act, State.whileRunOrDrain, device, hd]
  · obtain ⟨k, act⟩ := requestAct_beforeDrain hk (s.setLink i.via.port .taken)
    refine owner ?_
    rcases hd with hd | hd <;> rw [act, State.beforeDrain, device, hd]
  · obtain ⟨k, act⟩ := requestAct_untilDrained hk (s.setLink i.via.port .taken)
    exact owner (by rw [act, State.untilDrained, device, hd])
  · obtain ⟨k, act⟩ := requestAct_whileConfig hk (s.setLink i.via.port .taken)
    refine ⟨fun hd => owner ?_, fun hd => owner ?_⟩
    · rw [act, State.whileConfig, device, hd]
    · rcases hd with hd | hd <;> rw [act, State.whileConfig, device, hd]

end Sys2Proof.Machine
end

section
/-! The settlement of O17, O18, O20 to O22, O25, O26 and O32: SET NOTICE, the stream requests that queue no event, and
UNFENCE FUNCTION. Each owner's answer is said first, then the execution. -/

namespace Sys2Proof.Machine

/-! ### A request that reaches its owner -/

theorem State.reaches_isRequest {s : State} {i : Instr} (h : s.reaches i = true) : i.isRequest = true := by
  simp only [State.reaches, Bool.and_eq_true] at h
  exact h.1.1.1.1

/-- A request that its owner refuses. -/
theorem exec_refused {s : State} {i : Instr} {c : Code} (h : s.reaches i = true)
    (ha : requestAct i (s.setLink i.via.port .taken) = (s.setLink i.via.port .taken).refuse c) :
    exec i s = .next (s.answered i c []) := by
  rw [exec_of_isRequest (State.reaches_isRequest h), requestStep_refused i _ s c h ha]

/-- A request whose owner writes no port and no dispatch queue. -/
theorem exec_quiet {s u : State} {i : Instr} {code : Code} {payload : List Byte} (h : s.reaches i = true)
    (ha : requestAct i (s.setLink i.via.port .taken) = ⟨code, payload, u.setLink i.via.port .taken⟩)
    (hq : u.queues = s.queues) (hp : u.ports = s.ports) : exec i s = .next (u.answered i code payload) := by
  rw [exec_of_isRequest (State.reaches_isRequest h), requestStep_quiet i _ s u code payload h ha hq hp]

/-- A second write of an entry replaces the first, which was not the power-on entry. -/
theorem Table.write_write {α : Type} [DecidableEq α] (d : α) (t : Table α) (i : Nat) (v w : α) (hv : v ≠ d) :
    Table.write d (Table.write d t i v) i w = Table.write d t i w := by
  induction t with
  | nil => by_cases hw : w = d <;> simp [Table.write, hv, hw]
  | cons c t ih =>
    obtain ⟨j, x⟩ := c
    by_cases hlt : i < j
    · by_cases hw : w = d <;> simp [Table.write, hlt, hv, hw]
    · by_cases heq : i = j
      · subst heq
        by_cases hw : w = d <;> simp [Table.write, hv, hw]
      · simp [Table.write, hlt, heq, ih]

/-- A stream context that is not FREE is not the power-on context. -/
theorem Stream.ne_powerOn {v : Stream} (h : v.state ≠ .free) : v ≠ .powerOn := fun hv => h (congrArg Stream.state hv)

theorem State.setStream_setStream (s : State) (i : Nat) {v : Stream} (w : Stream) (h : v.state ≠ .free) :
    (s.setStream i v).setStream i w = s.setStream i w := by
  simp only [State.setStream, Table.write_write _ _ _ _ _ (Stream.ne_powerOn h)]

theorem lowestFrom_none {p : Nat → Bool} {n : Nat} (h : ∀ k, k < n → p k = false) : lowestFrom p n 0 = none := by
  cases hl : lowestFrom p n 0 with
  | none => rfl
  | some j =>
    obtain ⟨found, -, bound, -⟩ := lowestFrom_some p n 0 j hl
    rw [h j (by omega)] at found
    cases found

/-! ### SET NOTICE (R174) -/

theorem setNoticeAct_known {s : State} {p : Port} {mode : Byte} {m : NoticeMode} (hd : s.device ≠ .drained)
    (hm : noticeModeOf mode = some m) : setNoticeAct p mode s = ⟨.ok, [], s.setNoticeMode p m⟩ := by
  rw [setNoticeAct, State.untilDrained_pass _ hd, hm]

theorem noticeModeOf_none {mode : Byte} (h : 1 < mode.toNat) : noticeModeOf mode = none := by
  have h0 : mode ≠ 0 := by rintro rfl; exact absurd h (by decide)
  have h1 : mode ≠ 1 := by rintro rfl; exact absurd h (by decide)
  rw [noticeModeOf, if_neg h0, if_neg h1]

/-- A change of mode writes the port's mode and pulse alone. -/
theorem State.setNoticeMode_notice (s : State) (p : Port) (m : NoticeMode) (q : Port) :
    (s.setNoticeMode p m).notice q = s.notice q := by
  unfold State.setNoticeMode; split
  · rfl
  · by_cases hq : q = p
    · subst hq; simp [State.notice]
    · simp [State.notice, State.setPort_port, hq]

theorem State.setLink_setNoticeMode (s : State) (p : Port) (l : Link) (m : NoticeMode) :
    (s.setLink p l).setNoticeMode p m = (s.setNoticeMode p m).setLink p l := by
  unfold State.setNoticeMode
  by_cases h : (s.port p).mode = m <;> simp [h, State.setLink]

/-- Settles O17: the mode that is set already is left, and a change of mode makes no notice condition true. -/
theorem setNoticeSetsTheMode : Obligations.SetNoticeSetsTheMode := by
  unfold Obligations.SetNoticeSetsTheMode
  intro v mode s hr
  refine ⟨fun hd => ?drained, fun hd hm => ?unknown, fun hd m hm => ?known⟩
  case drained => exact exec_refused hr (State.untilDrained_stop _ hd)
  case unknown =>
    refine exec_refused hr ((State.untilDrained_pass (s := s.setLink _ _) _ hd).trans ?_)
    rw [noticeModeOf_none hm]
  case known =>
    have answered : exec (.setNotice v mode) s = .next ((s.setNoticeMode v.port m).answered (.setNotice v mode) .ok []) := by
      refine congrArg Host.Outcome.next (requestStep_answered _ _ s _ .ok [] hr ?_ fun q => ?_)
      · exact (setNoticeAct_known (s := s.setLink _ _) hd hm).trans (congrArg _ (State.setLink_setNoticeMode ..))
      · rw [State.setNoticeMode_notice]; cases s.notice q <;> simp
    refine ⟨fun same => ?_, fun other => ⟨_, rfl, ?_, ?_⟩⟩
    · rwa [State.setNoticeMode, if_pos same] at answered
    · rwa [State.setNoticeMode, if_neg other] at answered
    · have kept := s.setNoticeMode_notice v.port m v.port
      rw [State.setNoticeMode, if_neg other] at kept
      cases m <;> simp [State.noticeLine, kept]

/-! ### OPEN STREAM (R10, R11) -/

section
variable {s : State} {p : Port} {fn depth : Byte} {mask : DieMask}

theorem State.maskHasDie_iff : s.maskHasDie mask = true ↔ ∃ d, d < s.geo.dies ∧ mask.getLsbD d = true := by
  simp [State.maskHasDie]

theorem openClass_rp : openClass .rp fn = (.reclaim, 0) := rfl

theorem openClass_ne_rp (h : p ≠ .rp) : openClass p fn = (.tenant, fn.toNat) := by cases p <;> simp_all [openClass]

/-- The checks of R10 in their order, then R11. -/
theorem openStreamAct_eq (hd : s.device = .run) : openStreamAct p fn depth mask s =
    if !s.maskHasDie mask || 4 < depth.toNat then s.refuse .range
    else
      match s.ownerRefusal (openClass p fn).1 (openClass p fn).2 with
      | some c => s.refuse c
      | none =>
        match s.streamFor (openClass p fn).1 with
        | none => s.refuse .full
        | some i => ⟨.ok, two i, (s.setStream i (.opened (openClass p fn).1 (openClass p fn).2 depth.toNat mask)).countOpened
            (openClass p fn).1 (openClass p fn).2⟩ := State.whileRun_pass _ hd

theorem openStreamAct_range (hd : s.device = .run)
    (h : (∀ d, d < s.geo.dies → mask.getLsbD d = false) ∨ 4 < depth.toNat) :
    openStreamAct p fn depth mask s = s.refuse .range := by
  rw [openStreamAct_eq hd, if_pos]
  rcases h with h | h
  · have no_die : s.maskHasDie mask = false := by
      rw [Bool.eq_false_iff]
      intro hm
      obtain ⟨d, hlt, hset⟩ := State.maskHasDie_iff.mp hm
      rw [h d hlt] at hset; cases hset
    simp [no_die]
  · simp [h]

/-- Past the range check, the owner function's state and the context that is free decide. -/
theorem openStreamAct_inRange (hd : s.device = .run) (hm : ∃ d, d < s.geo.dies ∧ mask.getLsbD d = true)
    (hdepth : depth.toNat ≤ 4) : openStreamAct p fn depth mask s =
      match s.ownerRefusal (openClass p fn).1 (openClass p fn).2 with
      | some c => s.refuse c
      | none =>
        match s.streamFor (openClass p fn).1 with
        | none => s.refuse .full
        | some i => ⟨.ok, two i, (s.setStream i (.opened (openClass p fn).1 (openClass p fn).2 depth.toNat mask)).countOpened
            (openClass p fn).1 (openClass p fn).2⟩ := by
  rw [openStreamAct_eq hd, if_neg]
  simp [State.maskHasDie_iff.mpr hm, Nat.not_lt.mpr hdepth]

theorem State.freeStream_none (h : ∀ n, n < 1024 → (s.stream n).state ≠ .free) : s.freeStream = none :=
  lowestFrom_none fun n hn => decide_eq_false (h n hn)

theorem State.freeStream_some {n : Nat} (hn : n < 1024) (h : (s.stream n).state = .free)
    (hlow : ∀ j, j < n → (s.stream j).state ≠ .free) : s.freeStream = some n :=
  lowestFrom_eq _ _ _ _ (decide_eq_true h) (Nat.zero_le _) (by simpa [Config.streams] using hn)
    fun j _ hj => decide_eq_false (hlow j hj)

theorem Stream.opened_eq (cls : StreamClass) (owner : Nat) (depth : Byte) (mask : DieMask) :
    Stream.opened cls owner depth.toNat mask =
      { state := .idle, cls := cls, owner := owner, intake := .accept, mask := mask,
        depth := if depth = 0 then 2 else depth.toNat, requester := none, writePoint := none, finishing := none,
        inFlight := 0, sealing := .disarmed, failures := 0, padTotal := 0, batchesDone := 0, boundHints := 0, chain := [] } := by
  have zero : depth.toNat = 0 ↔ depth = 0 := BitVec.toNat_inj (y := 0#8)
  simp [Stream.opened, Stream.freeOf, zero]

end

/-- Settles O18: the owner's answer is computed by class (`openStreamAct_inRange`), with the context that `lowestFrom`
finds. -/
theorem openStreamTakesTheLowestFree : Obligations.OpenStreamTakesTheLowestFree := by
  unfold Obligations.OpenStreamTakesTheLowestFree
  intro v fn depth mask s hr hd
  dsimp only
  simp only [← Stream.opened_eq]
  refine ⟨fun h => exec_refused hr (openStreamAct_range hd h), fun hm hdepth => ?_⟩
  have act : requestAct (.openStream v fn depth mask) (s.setLink v.port .taken) = _ :=
    openStreamAct_inRange (s := s.setLink v.port .taken) hd hm hdepth
  refine ⟨fun hp hf => exec_refused hr ?_, fun hp hf => exec_refused hr ?_, fun hp hfull => exec_refused hr ?_,
    fun hp hfull => exec_refused hr ?_, fun n hn hfree hlow => ⟨fun hp hroom => ?_, fun hp hf => ?_⟩⟩
  · refine act.trans ?_; simp [Instr.via, openClass_ne_rp hp, State.ownerRefusal, hf]
  · refine act.trans ?_; simp [Instr.via, openClass_ne_rp hp, State.ownerRefusal, hf]
  · have full (p : Port) (cls : StreamClass) : (s.setLink p .taken).streamFor cls = none := by
      have none_free : (s.setLink p .taken).freeStream = none := State.freeStream_none hfull
      simp [State.streamFor, none_free]
    refine act.trans ?_
    by_cases hrp : v.port = .rp
    · simp [Instr.via, full, hrp, openClass_rp, State.ownerRefusal]
    · simp [Instr.via, full, openClass_ne_rp hrp, State.ownerRefusal, hp.resolve_left hrp]
  · refine act.trans ?_
    simp [Instr.via, hp, openClass_rp, State.ownerRefusal, State.streamFor, Config.reclaimStreams, hfull]
  · have found : (s.setLink v.port .taken).freeStream = some n := State.freeStream_some hn hfree hlow
    refine exec_quiet hr (act.trans ?_) rfl rfl
    rw [hp] at found ⊢
    simp [Instr.via, hp, openClass_rp, State.ownerRefusal, State.streamFor, found, Config.reclaimStreams, Nat.not_le.mpr hroom]
    rfl
  · have found : (s.setLink v.port .taken).freeStream = some n := State.freeStream_some hn hfree hlow
    refine exec_quiet hr (act.trans ?_) rfl rfl
    have owner : (s.setLink v.port .taken).ownerRefusal .tenant fn.toNat = none := by simp [State.ownerRefusal, hf]
    have context : (s.setLink v.port .taken).streamFor .tenant = some n := by simp [State.streamFor, found]
    simp only [openClass_ne_rp hp, owner, context]
    rfl

/-! ### UNBIND and SET STREAM MODE (R14, R15) -/

theorem unbindAct_eq {s : State} (fn hint : Byte) (hw : s.working = true) : unbindAct fn hint s =
    if 7 < hint.toNat then s.refuse .range else ⟨.ok, [], s.unbind fn.toNat hint.toNat⟩ :=
  State.whileRunOrDrain_pass _ hw

/-- Settles O20, by what the entry holds. -/
theorem unbindEmptiesTheEntry : Obligations.UnbindEmptiesTheEntry := by
  unfold Obligations.UnbindEmptiesTheEntry
  intro v fn hint s hr hw
  have act := unbindAct_eq (s := s.setLink v.port .taken) fn hint hw
  refine ⟨fun h => exec_refused hr (act.trans (if_pos h)), fun h => ⟨fun hb => ?_, fun i hb => ?_⟩⟩
  · refine exec_quiet hr (act.trans ((if_neg h.not_gt).trans ?_)) rfl rfl
    simp [State.unbind, hb]; rfl
  · refine exec_quiet hr (act.trans ((if_neg h.not_gt).trans ?_)) rfl rfl
    simp [State.unbind, hb]; rfl

theorem intakeOf_none {mode : Byte} (h : 1 < mode.toNat) : intakeOf mode = none := by
  have h0 : mode ≠ 0 := by rintro rfl; exact absurd h (by decide)
  have h1 : mode ≠ 1 := by rintro rfl; exact absurd h (by decide)
  rw [intakeOf, if_neg h0, if_neg h1]

/-- A byte that is at most 1 is 0 or 1. -/
theorem byte_le_one {b : Byte} (h : b.toNat ≤ 1) : b = 0 ∨ b = 1 := by
  have cases : b.toNat = 0 ∨ b.toNat = 1 := by omega
  exact cases.imp (fun h => BitVec.eq_of_toNat_eq h) fun h => BitVec.eq_of_toNat_eq h

theorem intakeOf_some {mode : Byte} (h : mode.toNat ≤ 1) : intakeOf mode = some (if mode = 0 then .accept else .hold) := by
  rcases byte_le_one h with rfl | rfl <;> rfl

theorem setStreamModeAct_eq {s : State} (stream : Half) {mode : Byte} {m : Intake} (hw : s.working = true)
    (hm : intakeOf mode = some m) : setStreamModeAct stream mode s =
      if 1023 < stream.toNat then s.refuse .range
      else if (s.stream stream.toNat).state = .free then s.refuse .state
      else ⟨.ok, [], s.setStream stream.toNat { s.stream stream.toNat with intake := m }⟩ := by
  rw [setStreamModeAct, State.whileRunOrDrain_pass _ hw, hm]

/-- Settles O21. -/
theorem setStreamModeSetsIntake : Obligations.SetStreamModeSetsIntake := by
  unfold Obligations.SetStreamModeSetsIntake
  intro v stream mode s hr hw
  refine ⟨fun h => exec_refused hr ?_, fun hi hm hf => exec_refused hr ?_, fun hi hm hf => exec_quiet hr ?_ rfl rfl⟩
  · by_cases hm : 1 < mode.toNat
    · exact (State.whileRunOrDrain_pass (s := s.setLink _ _) _ hw).trans (by rw [intakeOf_none hm])
    · refine (setStreamModeAct_eq (s := s.setLink _ _) stream hw (intakeOf_some (not_lt.mp hm))).trans (if_pos ?_)
      exact h.resolve_right hm
  · exact (setStreamModeAct_eq (s := s.setLink _ _) stream hw (intakeOf_some hm)).trans
      ((if_neg hi.not_gt).trans (if_pos hf))
  · exact (setStreamModeAct_eq (s := s.setLink _ _) stream hw (intakeOf_some hm)).trans
      ((if_neg hi.not_gt).trans (if_neg hf))

/-! ### CLOSE STREAM's checks (R16) -/

theorem wrongClass_iff (p : Port) (cls : StreamClass) :
    wrongClass p cls = false ↔ if p = .rp then cls = .reclaim else cls = .tenant := by
  cases p <;> cases cls <;> simp [wrongClass]

theorem closeStreamAct_eq {s : State} (p : Port) (stream : Half) (hw : s.working = true) : closeStreamAct p stream s =
    if 1023 < stream.toNat then s.refuse .range
    else
      match (s.stream stream.toNat).closeRefusal p with
      | some c => s.refuse c
      | none => ⟨.accepted, [], s.startClose stream.toNat p⟩ := State.whileRunOrDrain_pass _ hw

theorem closeStreamAct_refused {s : State} {p : Port} {stream : Half} {c : Code} (hw : s.working = true)
    (hi : stream.toNat ≤ 1023) (hc : (s.stream stream.toNat).closeRefusal p = some c) :
    closeStreamAct p stream s = s.refuse c := by
  rw [closeStreamAct_eq p stream hw, if_neg hi.not_gt, hc]

/-- Settles O22: `Stream.closeRefusal` makes the checks in the order of R16. -/
theorem closeStreamRefusals : Obligations.CloseStreamRefusals := by
  unfold Obligations.CloseStreamRefusals
  intro v stream s hr hw
  have refused {c : Code} (hi : stream.toNat ≤ 1023) (hc : (s.stream stream.toNat).closeRefusal v.port = some c) :
      exec (.closeStream v stream) s = .next (s.answered (.closeStream v stream) c []) :=
    exec_refused hr (closeStreamAct_refused (s := s.setLink v.port .taken) hw hi hc)
  refine ⟨fun h => exec_refused hr ((closeStreamAct_eq (s := s.setLink v.port .taken) _ _ hw).trans (if_pos h)),
    fun hi hf => refused hi ?_, fun hi hf other => refused hi ?_, fun hi mine hh => refused hi ?_,
    fun hi mine hh => refused hi ?_⟩
  · simp [Stream.closeRefusal, hf]
  · have wrong : wrongClass v.port (s.stream stream.toNat).cls = true := by
      rw [← Bool.not_eq_false, wrongClass_iff]; exact other
    simp [Stream.closeRefusal, hf, wrong]
  · simp [Stream.closeRefusal, hh, (wrongClass_iff _ _).mpr mine]
  · simp [Stream.closeRefusal, hh, (wrongClass_iff _ _).mpr mine]

/-! ### UNFENCE FUNCTION (R157) -/

theorem unfenceFunctionAct_eq {s : State} (fn : Half) (hd : s.device = .run) : unfenceFunctionAct fn s =
    if 255 < fn.toNat then s.refuse .range
    else if (s.function fn.toNat).state ≠ .fenced || (s.function fn.toNat).fence.isSome then s.refuse .state
    else ⟨.ok, [], s.setFunction fn.toNat { s.function fn.toNat with state := .enabled }⟩ := State.whileRun_pass _ hd

/-- A request of RUN alone, in the other device states. -/
theorem State.whileRun_stop {s : State} (k : Reply) :
    (s.device = .config → s.whileRun k = s.refuse .notRunning) ∧
      (s.device = .drain ∨ s.device = .drained → s.whileRun k = s.refuse .power) := by
  refine ⟨fun hd => ?_, fun hd => ?_⟩
  · rw [State.whileRun, hd]
  · rcases hd with hd | hd <;> rw [State.whileRun, hd]

/-- Settles O32. -/
theorem unfenceFunctionEnables : Obligations.UnfenceFunctionEnables := by
  unfold Obligations.UnfenceFunctionEnables
  intro v fn s hr
  have act := unfenceFunctionAct_eq (s := s.setLink v.port .taken) fn
  refine ⟨fun hd => exec_refused hr ((State.whileRun_stop (s := s.setLink v.port .taken) _).1 hd),
    fun hd => exec_refused hr ((State.whileRun_stop (s := s.setLink v.port .taken) _).2 hd), fun hd =>
    ⟨fun h => exec_refused hr ((act hd).trans (if_pos h)), fun hf h => exec_refused hr ?_, fun hf h hn => ?_⟩⟩
  · refine (act hd).trans ((if_neg hf.not_gt).trans (if_pos ?_))
    rw [Bool.or_eq_true, decide_eq_true_eq, Option.isSome_iff_ne_none]
    exact h
  · refine exec_quiet hr ((act hd).trans ((if_neg hf.not_gt).trans (if_neg ?_))) rfl rfl
    simp [h, hn]

/-! ### RESUME STREAM (R120) -/

section
variable {s : State} {i : Nat}

/-- With no uncut sector there is no cut point. -/
theorem State.cutRecord_none (h : s.uncut i = 0) : s.cutRecord i = none := by
  rw [State.cutRecord, List.find?_eq_none]
  intro r hr
  have zero : (s.record r).uncut = 0 := List.sum_eq_zero_iff.mp h _ (List.mem_map_of_mem hr)
  simp only [Fragment.uncut] at zero
  simp; omega

theorem State.sealFor_none (h : s.uncut i = 0) : s.sealFor i = .disarmed := by
  rw [State.sealFor, State.cutRecord_none h]

/-- With no cut due a test changes nothing. -/
theorem State.test_idle (h : s.cutDue i = false) : s.test i = s := by
  rw [State.test, State.testFor, if_neg (by simp [h])]

theorem State.cutDue_none (h : s.uncut i = 0) : s.cutDue i = false := by simp [State.cutDue, h]

/-- A change of a stream's context that keeps its chain keeps its uncut count. -/
theorem State.setStream_uncut (v : Stream) (hv : v.chain = (s.stream i).chain) : (s.setStream i v).uncut i = s.uncut i := by
  simp [State.uncut, hv]

theorem State.whileHalted_eq (stream : Half) (k : Reply) (hw : s.working = true) : s.whileHalted stream k =
    if 1023 < stream.toNat then s.refuse .range
    else if (s.stream stream.toNat).state ≠ .halted then s.refuse .state
    else k := State.whileRunOrDrain_pass _ hw

theorem State.whileHalted_pass {stream : Half} (k : Reply) (hw : s.working = true) (hi : stream.toNat ≤ 1023)
    (hh : (s.stream stream.toNat).state = .halted) : s.whileHalted stream k = k := by
  rw [State.whileHalted_eq stream k hw, if_neg hi.not_gt, if_neg (by simp [hh])]

/-- What R120 writes before the stream is tested. -/
theorem State.resume_eq : s.resume i = State.test (s.setStream i { s.stream i with
    state := .idle, failures := 0, sealing := (s.leaveHalt i).sealFor i }) i := by
  rw [State.resume, State.setSeal, State.leaveHalt, State.setStream_setStream _ _ _ (by simp)]
  simp

end

section
variable {s t : State} {v : Via} {stream : Half}

theorem resumeStreamAct_eq (hw : s.working = true) : resumeStreamAct stream s =
    if 1023 < stream.toNat then s.refuse .range
    else if (s.stream stream.toNat).state ≠ .halted then s.refuse .state
    else ⟨.ok, one ((s.resume stream.toNat).stream stream.toNat).state.number, s.resume stream.toNat⟩ :=
  State.whileHalted_eq stream _ hw

/-- An accepted RESUME STREAM that queues no event. -/
theorem exec_resumeStream (hr : s.reaches (.resumeStream v stream) = true) (hw : s.working = true)
    (hi : stream.toNat ≤ 1023) (hh : (s.stream stream.toNat).state = .halted)
    (ht : (s.setLink v.port .taken).resume stream.toNat = t.setLink v.port .taken) (hq : t.queues = s.queues)
    (hp : t.ports = s.ports) : exec (.resumeStream v stream) s =
      .next (t.answered (.resumeStream v stream) .ok (one (t.stream stream.toNat).state.number)) := by
  have halted : ¬ ((s.setLink v.port .taken).stream stream.toNat).state ≠ .halted := not_not.mpr hh
  have act := resumeStreamAct_eq (s := s.setLink v.port .taken) (stream := stream) hw
  rw [if_neg hi.not_gt, if_neg halted, ht] at act
  exact exec_quiet hr act hq hp

end

/-- Settles O25: with no uncut sector the seal is DISARMED and no cut is due. -/
theorem resumeStreamLeavesHalt : Obligations.ResumeStreamLeavesHalt := by
  unfold Obligations.ResumeStreamLeavesHalt
  intro v stream s hr hw
  have act := resumeStreamAct_eq (s := s.setLink v.port .taken) (stream := stream) hw
  refine ⟨fun h => exec_refused hr (act.trans (if_pos h)),
    fun hi hh => exec_refused hr (act.trans ((if_neg hi.not_gt).trans (if_pos hh))), fun hi hh hu => ?_⟩
  have resumed : (s.setLink v.port .taken).resume stream.toNat = (s.setStream stream.toNat { s.stream stream.toNat with
      state := .idle, failures := 0, sealing := .disarmed }).setLink v.port .taken := by
    have left : ((s.setLink v.port .taken).leaveHalt stream.toNat).uncut stream.toNat = 0 :=
      (State.setStream_uncut (s := s.setLink v.port .taken) _ (by rfl)).trans hu
    rw [State.resume_eq, State.sealFor_none left, State.test_idle (State.cutDue_none ?_)]
    · rfl
    · exact (State.setStream_uncut (s := s.setLink v.port .taken) _ (by rfl)).trans hu
  have answered := exec_resumeStream hr hw hi hh resumed rfl rfl
  rwa [State.setStream_stream_same] at answered

section
variable {s t : State} {i : Nat}

/-- A pass that asks for no other one ends the test. -/
theorem State.test_of_pass (hc : s.cutDue i = true) (hp : s.testPass i = (t, false)) : s.test i = t := by
  rw [State.test, State.testFor, if_pos hc, hp]

theorem State.chooseDie_none {mask : DieMask} (h : ∀ d, s.eligible mask d = false) : s.chooseDie mask = none :=
  List.foldlRecOn (motive := fun b => b = none) _ _ rfl fun b hb d _ => by simp [State.betterDie, h d, hb]

theorem State.allocate_none (h : ∀ d, s.eligible (s.stream i).mask d = false) : s.allocate i = none := by
  rw [State.allocate, State.chooseDie_none h]

/-- A stream with a cut due, no write point and no eligible die joins the WAIT-SUPPLY list. -/
theorem State.test_joinSupply (hc : s.cutDue i = true) (hw : (s.stream i).writePoint = none)
    (hf : (s.stream i).finishing = none) (hs : s.supplyWait i = false)
    (he : ∀ d, s.eligible (s.stream i).mask d = false) : s.test i = s.joinSupply i := by
  refine State.test_of_pass hc ?_
  simp [State.testPass, hw, hf, hs, State.allocate_none he]

theorem State.joinSupply_of_idle (hs : s.supplyWait i = false) (hi : (s.stream i).state = .idle) : s.joinSupply i =
    ({ s with waitSupply := s.waitSupply ++ [i] } : State).setStream i { s.stream i with state := .waitSupply } := by
  simp [State.joinSupply, hs, hi]

theorem State.cutDue_of_unit {st : Stream} (hst : s.stream i = st) (h : st.state ≠ .free) (h' : st.state ≠ .halted)
    (hu : 1 ≤ s.uncut i) (hg : s.geo.sectors ≤ s.uncut i) (hd : st.inFlight < st.depth) : s.cutDue i = true := by
  simp [State.cutDue, hst, h, h', hu, hg, hd]

end

/-- Leaving HALT does not change the seal a stream is given: the standing causes know no HALTED or IDLE (R69). -/
theorem State.leaveHalt_sealFor {s : State} {i : Nat} (h : (s.stream i).state = .halted) :
    (s.leaveHalt i).sealFor i = s.sealFor i := by
  have cutRecord : (s.leaveHalt i).cutRecord i = s.cutRecord i := by
    simp [State.cutRecord, State.leaveHalt]; rfl
  have timeout : (s.leaveHalt i).sealTimeout i = s.sealTimeout i := by simp [State.sealTimeout, State.leaveHalt]
  have standing (r : Nat) : (s.leaveHalt i).standing i r = s.standing i r := by
    simp [State.standing, State.leaveHalt, h]; rfl
  simp only [State.sealFor, cutRecord, timeout, standing]
  rfl

/-- A resumed stream with a unit to cut finds no die: the seal it would have had stands, and it waits for supply. -/
theorem State.resume_joinSupply {s : State} {i : Nat} (hh : (s.stream i).state = .halted)
    (hunit : s.geo.sectors ≤ s.uncut i) (hu : 1 ≤ s.uncut i) (hdepth : (s.stream i).inFlight < (s.stream i).depth)
    (hpoint : (s.stream i).writePoint = none) (hfin : (s.stream i).finishing = none) (hwait : s.supplyWait i = false)
    (he : ∀ d, s.eligible (s.stream i).mask d = false) :
    s.resume i = ({ s with waitSupply := s.waitSupply ++ [i] } : State).setStream i { s.stream i with
      state := .waitSupply, failures := 0, sealing := s.sealFor i } := by
  have uncut := State.setStream_uncut (s := s) (i := i)
    { s.stream i with state := .idle, failures := 0, sealing := s.sealFor i } rfl
  have joined := State.setStream_setStream ({ s with waitSupply := s.waitSupply ++ [i] } : State) i
    (v := { s.stream i with state := .idle, failures := 0, sealing := s.sealFor i })
    { s.stream i with state := .waitSupply, failures := 0, sealing := s.sealFor i } nofun
  rw [State.resume_eq, State.leaveHalt_sealFor hh, State.test_joinSupply, State.joinSupply_of_idle,
    State.setStream_stream_same]
  case hc =>
    exact State.cutDue_of_unit (State.setStream_stream_same ..) nofun nofun (uncut.symm ▸ hu) (uncut.symm ▸ hunit) hdepth
  case hw => simpa using hpoint
  case hf => simpa using hfin
  case hs => exact hwait
  case he => intro d; rw [State.setStream_stream_same]; exact he d
  · exact joined
  · simp
  · exact hwait

/-- Settles O26: the stream leaves HALT with the seal it would have had, and its cut finds no die. -/
theorem resumeStreamWaitsForSupply : Obligations.ResumeStreamWaitsForSupply := by
  unfold Obligations.ResumeStreamWaitsForSupply
  intro v stream s hr hw
  dsimp only
  intro hi hh hunit hu hdepth hpoint hfin hwait he
  have resumed := State.resume_joinSupply (s := s.setLink v.port .taken) hh hunit hu hdepth hpoint hfin hwait he
  have answered := exec_resumeStream (t := ({ s with waitSupply := s.waitSupply ++ [stream.toNat] } : State).setStream
    stream.toNat { s.stream stream.toNat with state := .waitSupply, failures := 0, sealing := s.sealFor stream.toNat })
    hr hw hi hh resumed rfl rfl
  rwa [State.setStream_stream_same] at answered

end Sys2Proof.Machine
end

section
/-! The settlement of O28 and O33, and of the refusals in O34: SET FUNCTION, and the checks of SUBMIT. -/

namespace Sys2Proof.Machine

/-! ### SET FUNCTION (R42, R43) -/

section
variable {s : State} {fn enable : Byte} {reserve cap timeout : Half}

theorem enableOf_none (h : 1 < enable.toNat) : enableOf enable = none := by
  have h0 : enable ≠ 0 := by rintro rfl; exact absurd h (by decide)
  have h1 : enable ≠ 1 := by rintro rfl; exact absurd h (by decide)
  rw [enableOf, if_neg h0, if_neg h1]

theorem enableOf_some (h : enable.toNat ≤ 1) : enableOf enable = some (decide (enable.toNat = 1)) := by
  rcases byte_le_one h with rfl | rfl <;> rfl

/-- The checks of R42 in their order, for an enable choice that is in its list. -/
theorem setFunctionAct_eq (hd : s.device = .config ∨ s.device = .run) (he : enable.toNat ≤ 1) :
    setFunctionAct fn enable reserve cap timeout s =
      if s.limits.holdUp < reserve.toNat || s.limits.holdUp < cap.toNat || 2000 < timeout.toNat then s.refuse .range
      else if !decide (enable.toNat = 1) && (s.function fn.toNat).cannotDisable then s.refuse .state
      else if s.limits.holdUp < s.reservesAfter fn.toNat (decide (enable.toNat = 1)) reserve.toNat then s.refuse .range
      else ⟨.ok, [], s.applySettings fn.toNat (decide (enable.toNat = 1)) reserve.toNat cap.toNat timeout.toNat⟩ := by
  rw [setFunctionAct, State.beforeDrain_pass _ hd, enableOf_some he]

theorem setFunctionAct_range (hd : s.device = .config ∨ s.device = .run)
    (h : ¬ (reserve.toNat ≤ s.limits.holdUp ∧ cap.toNat ≤ s.limits.holdUp ∧ timeout.toNat ≤ 2000 ∧ enable.toNat ≤ 1)) :
    setFunctionAct fn enable reserve cap timeout s = s.refuse .range := by
  by_cases he : enable.toNat ≤ 1
  · rw [setFunctionAct_eq hd he, if_pos]
    simp only [Bool.or_eq_true, decide_eq_true_eq]
    omega
  · rw [setFunctionAct, State.beforeDrain_pass _ hd, enableOf_none (by omega)]

/-- A function that cannot be disabled, by R42 step 2. -/
theorem Function.cannotDisable_iff (fr : Function) :
    fr.cannotDisable = true ↔ fr.state = .fenced ∨ 1 ≤ fr.openStreams ∨ 1 ≤ fr.held := by
  simp [Function.cannotDisable, or_assoc]

/-- Past the range check. -/
theorem setFunctionAct_inRange (hd : s.device = .config ∨ s.device = .run) (hrange : reserve.toNat ≤ s.limits.holdUp ∧
    cap.toNat ≤ s.limits.holdUp ∧ timeout.toNat ≤ 2000 ∧ enable.toNat ≤ 1) :
    setFunctionAct fn enable reserve cap timeout s =
      if enable.toNat = 0 ∧ (s.function fn.toNat).cannotDisable = true then s.refuse .state
      else if s.limits.holdUp < s.reservesAfter fn.toNat (decide (enable.toNat = 1)) reserve.toNat then s.refuse .range
      else ⟨.ok, [], s.applySettings fn.toNat (decide (enable.toNat = 1)) reserve.toNat cap.toNat timeout.toNat⟩ := by
  obtain ⟨hr, hc, ht, he⟩ := hrange
  have zero : (!decide (enable.toNat = 1)) = decide (enable.toNat = 0) := by
    rcases byte_le_one he with rfl | rfl <;> rfl
  rw [setFunctionAct_eq hd he, if_neg (by simp [hr, hc, ht]), zero]
  simp only [Bool.and_eq_true, decide_eq_true_eq]

/-- With no BUDGET wait, none is opened. -/
theorem State.openBudgetWaits_none (h : ∀ g n, (s.function g).wait ≠ .budget n) : s.openBudgetWaits = s := by
  have one (g : Nat) : openBudgetWait s g = s := by
    unfold openBudgetWait; split
    · next n hw => exact absurd hw (h g n)
    · rfl
    · rfl
  exact List.foldlRecOn (motive := fun u => u = s) _ _ rfl fun u hu g _ => by rw [hu, one]

end

/-- What R43 stores in a function's record, with a byte for the enable choice. -/
theorem Function.settings_eq (fr : Function) {e : Nat} (he : e ≤ 1) (r c t : Nat) :
    fr.settings (decide (e = 1)) r c t = { fr with
      reserve := r, cap := c, timeout := t,
      state := if e = 0 then .disabled else if fr.state = .disabled then .enabled else fr.state,
      wait := if e = 0 ∧ fr.state ≠ .disabled then .none else fr.wait } := by
  have cases : e = 0 ∨ e = 1 := by omega
  rcases cases with rfl | rfl <;> by_cases hs : fr.state = .disabled <;> simp [Function.settings, hs]

/-- What R43 stores, with no BUDGET wait to open. -/
theorem State.applySettings_eq {s : State} (f : Nat) {e : Nat} (he : e ≤ 1) (r c t : Nat)
    (hwait : ∀ g n, (s.function g).wait ≠ .budget n) : s.applySettings f (decide (e = 1)) r c t =
      (s.setFunction f { s.function f with
        reserve := r, cap := c, timeout := t,
        state := if e = 0 then .disabled else if (s.function f).state = .disabled then .enabled else (s.function f).state,
        wait := if e = 0 ∧ (s.function f).state ≠ .disabled then .none else (s.function f).wait }).setBudget
      { s.budget with unused := s.budget.unused + (if e = 1 then r - (s.function f).held else 0) -
          (if (s.function f).state = .disabled then 0 else (s.function f).reserve - (s.function f).held) } := by
  have stored := Function.settings_eq (s.function f) he r c t
  have term : ((s.function f).settings (decide (e = 1)) r c t).term = if e = 1 then r - (s.function f).held else 0 := by
    have cases : e = 0 ∨ e = 1 := by omega
    rcases cases with rfl | rfl <;> simp [Function.term, Function.settings, Function.spare]
    intro h; split at h <;> simp_all
  have quiet : ∀ g n, ((s.setFunction f ((s.function f).settings (decide (e = 1)) r c t)).function g).wait ≠ .budget n := by
    intro g n
    rw [State.setFunction_function, stored]
    by_cases hg : g = f
    · simp only [hg, if_true]; split
      · nofun
      · exact hwait f n
    · simp only [hg, if_false]; exact hwait g n
  unfold State.applySettings
  dsimp only
  rw [State.openBudgetWaits_none, term, stored]
  · rfl
  · exact quiet

/-- Settles O28: the owner's checks are R42's, and with no BUDGET wait to open the settings are all that changes. -/
theorem setFunctionStoresTheSettings : Obligations.SetFunctionStoresTheSettings := by
  unfold Obligations.SetFunctionStoresTheSettings
  intro v fn enable reserve cap timeout s hr hd
  dsimp only
  simp only [← Function.cannotDisable_iff]
  have act := setFunctionAct_inRange (s := s.setLink v.port .taken) (fn := fn) (enable := enable) (reserve := reserve)
    (cap := cap) (timeout := timeout) hd
  have sum : (s.setLink v.port .taken).reservesAfter fn.toNat (decide (enable.toNat = 1)) reserve.toNat =
      s.reserves (some fn.toNat) + if enable.toNat = 1 then reserve.toNat else 0 := by
    simp [State.reservesAfter]; rfl
  refine ⟨fun h => exec_refused hr (setFunctionAct_range (s := s.setLink v.port .taken) hd h),
    fun hrange pinned => exec_refused hr ((act hrange).trans (if_pos pinned)),
    fun hrange free above => exec_refused hr ((act hrange).trans ((if_neg free).trans (if_pos (above.trans_eq sum.symm)))),
    fun hrange free within hwait => ?_⟩
  refine exec_quiet hr ((act hrange).trans ((if_neg free).trans ((if_neg (not_lt.mpr (sum.trans_le within))).trans ?_))) rfl rfl
  rw [State.applySettings_eq (s := s.setLink v.port .taken) _ hrange.2.2.2 _ _ _ hwait]
  rfl

/-! ### SUBMIT (Table 2-3) -/

section
variable {s : State} {p : Port} {fn hint : Byte} {stream : Half} {tag : Word} {lba : Lba} {region : Byte} {offset : Word}
  {n : Byte}

/-- Past the device state and the range check, the port decides. -/
theorem submitAct_inRange (hd : s.device = .run) (hr : submitOutOfRange p hint stream lba region offset n = false) :
    submitAct p fn hint stream tag lba region offset n s =
      if p = .rp then s.submitReclaim stream.toNat ⟨tag, lba, region, offset, n.toNat⟩
      else s.submitTenant fn.toNat hint.toNat ⟨tag, lba, region, offset, n.toNat⟩ := by
  rw [submitAct, State.whileRun_pass _ hd, hr]; rfl

theorem submitAct_outOfRange (hd : s.device = .run) (hr : submitOutOfRange p hint stream lba region offset n = true) :
    submitAct p fn hint stream tag lba region offset n s = s.refuse .range := by
  rw [submitAct, State.whileRun_pass _ hd, hr]; rfl

theorem submitOutOfRange_iff : submitOutOfRange p hint stream lba region offset n = true ↔
    n.toNat = 0 ∨ 64 < n.toNat ∨ offset.toNat % 4096 ≠ 0 ∨
      2 ^ 40 < region.toNat * 2 ^ 32 + offset.toNat + n.toNat * 4096 ∨ 2 ^ 48 < lba.toNat + n.toNat ∨
      (p = .fp ∧ 7 < hint.toNat) ∨ (p = .rp ∧ 1023 < stream.toNat) := by
  simp [submitOutOfRange, or_assoc]

variable {f k i : Nat} {w : Write}

theorem State.submitTenant_disabled (h : (s.function f).state = .disabled) : s.submitTenant f k w = s.refuse .disabled := by
  rw [State.submitTenant, h]
theorem State.submitTenant_fenced (h : (s.function f).state = .fenced) :
    s.submitTenant f k w = ⟨.fenced, [], s.countViolation f⟩ := by rw [State.submitTenant, h]
theorem State.submitTenant_unbound (h : (s.function f).state = .enabled) (hb : s.binding f k = none) :
    s.submitTenant f k w = s.refuse .unbound := by rw [State.submitTenant, h, hb]
theorem State.submitTenant_bound (h : (s.function f).state = .enabled) (hb : s.binding f k = some i) :
    s.submitTenant f k w = match (s.stream i).intakeRefusal with
      | some c => s.refuse c
      | none => s.submitTo f i w := by simp only [State.submitTenant, h, hb] <;> rfl

end

/-- Settles O33. -/
theorem submitRefusals : Obligations.SubmitRefusals := by
  unfold Obligations.SubmitRefusals
  intro v fn hint stream tag lba region offset n s hr
  dsimp only
  simp only [← submitOutOfRange_iff, Bool.not_eq_true]
  refine ⟨fun hd => exec_refused hr ((State.whileRun_stop (s := s.setLink v.port .taken) _).1 hd),
    fun hd => exec_refused hr ((State.whileRun_stop (s := s.setLink v.port .taken) _).2 hd),
    fun hd out => exec_refused hr (submitAct_outOfRange (s := s.setLink v.port .taken) hd out), fun hd inRange hp => ?_,
    fun hd inRange hp hfree => ?_⟩
  · have act := submitAct_inRange (s := s.setLink v.port .taken) (fn := fn) (tag := tag) hd inRange
    rw [if_neg (by simp [hp])] at act
    refine ⟨fun hf => exec_refused hr (act.trans ?_), fun hf => exec_quiet hr (act.trans ?_) rfl rfl,
      fun hf hb => exec_refused hr (act.trans ?_)⟩
    · exact State.submitTenant_disabled (s := s.setLink v.port .taken) hf
    · exact State.submitTenant_fenced (s := s.setLink v.port .taken) hf
    · exact State.submitTenant_unbound (s := s.setLink v.port .taken) hf hb
  · have act := submitAct_inRange (s := s.setLink v.port .taken) (fn := fn) (tag := tag) hd inRange
    rw [if_pos hp] at act
    refine exec_refused hr (act.trans (if_pos ?_))
    rw [Bool.or_eq_true, decide_eq_true_eq, decide_eq_true_eq]
    exact hfree

section
variable {s : State} {st : Stream} {f i r n : Nat} {w : Write}

/-! ### What the resolved stream refuses (R30) -/

theorem Stream.intakeRefusal_halted (h : st.state = .halted) : st.intakeRefusal = some .halted := by
  rw [Stream.intakeRefusal, h]
theorem Stream.intakeRefusal_draining (h : st.state = .draining) : st.intakeRefusal = some .closing := by
  rw [Stream.intakeRefusal, h]
theorem Stream.intakeRefusal_open (h : st.state = .idle ∨ st.state = .active ∨ st.state = .waitSupply) :
    st.intakeRefusal = if st.intake = .hold then some .holdStream else none := by
  rcases h with h | h | h <;> rw [Stream.intakeRefusal, h]

/-! ### What the record pool and the headroom refuse (R31 to R34) -/

theorem State.recordFor_tenant_full (h : Config.records - s.limits.reclaimRecords ≤ s.tenantInUse) :
    s.recordFor .tenant = none := by simp only [State.recordFor, h, decide_true, if_true]

theorem State.recordFor_tenant_room (h : s.tenantInUse < Config.records - s.limits.reclaimRecords) :
    s.recordFor .tenant = s.freeRecordNumber := by
  simp only [State.recordFor, Nat.not_le.mpr h, decide_false, Bool.false_eq_true, if_false]

theorem State.recordFor_reclaim_full (h : s.limits.reclaimRecords ≤ s.reclaimInUse) : s.recordFor .reclaim = none := by
  simp only [State.recordFor, h, decide_true, if_true]

theorem State.recordFor_reclaim_room (h : s.reclaimInUse < s.limits.reclaimRecords) :
    s.recordFor .reclaim = s.freeRecordNumber := by
  simp only [State.recordFor, Nat.not_le.mpr h, decide_false, Bool.false_eq_true, if_false]

theorem State.freeRecordNumber_some (hr : r < 4096) (h : (s.record r).condition = .free)
    (hlow : ∀ x, x < r → (s.record x).condition ≠ .free) : s.freeRecordNumber = some r :=
  lowestFrom_eq _ _ _ _ (decide_eq_true h) (Nat.zero_le _) (by simpa [Config.records] using hr)
    fun x _ hx => decide_eq_false (hlow x hx)

/-- With a FREE record there is a lowest one. -/
theorem State.exists_freeRecordNumber (h : ∃ r, r < 4096 ∧ (s.record r).condition = .free) :
    ∃ r, s.freeRecordNumber = some r := by
  classical
  obtain ⟨bound, free⟩ := Nat.find_spec h
  exact ⟨_, State.freeRecordNumber_some bound free fun x hx hfree => Nat.find_min h hx ⟨by omega, hfree⟩⟩

/-- R32's two tests are the test of the headroom. -/
theorem State.budgetTest_iff : s.budgetTest f n = true ↔ (n : Int) ≤ min (((s.function f).cap : Int) - (s.function f).held)
    ((s.limits.holdUp : Int) - s.budget.total - s.budget.unused +
      max 0 (((s.function f).reserve : Int) - (s.function f).held)) := by
  have spare : (((s.function f).spare : Nat) : Int) = max 0 (((s.function f).reserve : Int) - (s.function f).held) := by
    rw [Function.spare]
    rcases Nat.le_total (s.function f).held (s.function f).reserve with more | less
    · rw [max_eq_right (by omega)]; omega
    · rw [max_eq_left (by omega)]; omega
  rw [← spare]
  simp only [State.budgetTest, Bool.and_eq_true, decide_eq_true_eq]
  omega

theorem State.submitTo_noRecord (h : s.recordFor .tenant = none) :
    s.submitTo f i w = ⟨.holdRecords, [], s.setWait f (.records w.n)⟩ := by rw [State.submitTo, h]

theorem State.submitTo_noBudget (h : s.recordFor .tenant = some r) (hb : s.budgetTest f w.n = false) :
    s.submitTo f i w = ⟨.holdBudget, [], s.setWait f (.budget w.n)⟩ := by
  simp only [State.submitTo, h, hb, Bool.false_eq_true, if_false]

theorem State.submitTo_admits (h : s.recordFor .tenant = some r) (hb : s.budgetTest f w.n = true) :
    s.submitTo f i w = ⟨.admitted, admittedPayload i (s.function f).serial, s.admitTenant f i r w⟩ := by
  simp only [State.submitTo, h, hb, if_true]

end

/-- Settles O34: the stream is asked first (`Stream.intakeRefusal`), then the record pool, then the headroom. -/
theorem submitHoldsATenantWrite : Obligations.SubmitHoldsATenantWrite := by
  unfold Obligations.SubmitHoldsATenantWrite
  intro v fn hint stream tag lba region offset n s k hr hd inRange hp
  dsimp only
  intro hf hb
  have act := (submitAct_inRange (s := s.setLink v.port .taken) (fn := fn) (tag := tag) hd inRange).trans
    (if_neg (by simp [hp]))
  rw [State.submitTenant_bound (s := s.setLink v.port .taken) (i := k) hf hb] at act
  have refused {c : Code} (h : (s.stream k).intakeRefusal = some c) :
      exec (.submit v fn hint stream tag lba region offset n) s =
        .next (s.answered (.submit v fn hint stream tag lba region offset n) c []) := by
    refine exec_refused hr (act.trans ?_)
    rw [State.setLink_stream, h]; rfl
  refine ⟨fun h => refused (Stream.intakeRefusal_halted h), fun h => refused (Stream.intakeRefusal_draining h),
    fun h hold => refused ((Stream.intakeRefusal_open h).trans (if_pos hold)), fun h accept => ?_⟩
  have accepted : ((s.setLink v.port .taken).stream k).intakeRefusal = none :=
    (Stream.intakeRefusal_open h).trans (if_neg (by simp [accept]))
  rw [accepted] at act
  refine ⟨fun full => ?_, fun room hfree short => ?_⟩
  · exact exec_quiet hr (act.trans (State.submitTo_noRecord (State.recordFor_tenant_full full))) rfl rfl
  · obtain ⟨r, hr'⟩ := State.exists_freeRecordNumber hfree
    have record : (s.setLink v.port .taken).recordFor .tenant = some r := (State.recordFor_tenant_room room).trans hr'
    have failed : (s.setLink v.port .taken).budgetTest fn.toNat n.toNat = false := by
      rw [Bool.eq_false_iff, ne_eq, State.budgetTest_iff]
      exact not_le.mpr short
    exact exec_quiet hr (act.trans (State.submitTo_noBudget record failed)) rfl rfl

end Sys2Proof.Machine
end

section
/-! The settlement of O37, O40, O42 and O46: the stream a pressure seal names, TAKE BATCH, the checks of BATCH RESULT,
and INVALIDATE. -/

namespace Sys2Proof.Machine

/-! ### Tables -/

/-- Writing back a listed entry changes nothing. -/
theorem Table.write_read_of_ne {α : Type} [DecidableEq α] (d : α) (t : Table α) (i : Nat) (h : Table.read d t i ≠ d) :
    Table.write d t i (Table.read d t i) = t := by
  induction t with
  | nil => exact absurd rfl h
  | cons c t ih =>
    obtain ⟨j, w⟩ := c
    by_cases hlt : i < j
    · simp [Table.read, hlt] at h
    · by_cases heq : i = j
      · subst heq
        simp only [Table.read, lt_irrefl, if_false, if_true] at h ⊢
        simp [Table.write, h]
      · simp only [Table.read, hlt, heq, if_false] at h ⊢
        simp [Table.write, hlt, heq, ih h]

/-- Writing back any entry of a canonical table changes nothing. -/
theorem Table.write_read_of_canonicalFrom {α : Type} [DecidableEq α] (d : α) (t : Table α) (low i : Nat)
    (h : Table.canonicalFrom d low t = true) : Table.write d t i (Table.read d t i) = t := by
  induction t generalizing low with
  | nil => simp [Table.write]
  | cons c t ih =>
    obtain ⟨j, w⟩ := c
    simp only [Table.canonicalFrom, Bool.and_eq_true, decide_eq_true_eq] at h
    obtain ⟨⟨-, listed⟩, rest⟩ := h
    by_cases hlt : i < j
    · simp [Table.read, Table.write, hlt]
    · by_cases heq : i = j
      · subst heq; simp [Table.read, Table.write, listed]
      · simp [Table.read, Table.write, hlt, heq, ih (j + 1) rest]

theorem State.setSegment_self (s : State) (g : Seg) (h : Table.canonical .powerOn s.segments = true) :
    s.setSegment g (s.segment g) = s := by
  rw [State.setSegment, State.segment, Table.write_read_of_canonicalFrom _ _ 0 _ h]

/-- The listed indices of a canonical table rise. -/
theorem Table.indices_pairwise {α : Type} [DecidableEq α] (d : α) (t : Table α) (low : Nat)
    (h : Table.canonicalFrom d low t = true) : (∀ i ∈ Table.indices t, low ≤ i) ∧ (Table.indices t).Pairwise (· < ·) := by
  induction t generalizing low with
  | nil => simp [Table.indices]
  | cons c t ih =>
    simp only [Table.canonicalFrom, Bool.and_eq_true, decide_eq_true_eq] at h
    obtain ⟨⟨bound, -⟩, rest⟩ := h
    obtain ⟨above, rising⟩ := ih _ rest
    refine ⟨fun i hi => ?_, List.pairwise_cons.mpr ⟨fun i hi => above i hi, rising⟩⟩
    rcases List.mem_cons.mp hi with rfl | hi
    · exact bound
    · exact bound.trans ((Nat.le_succ _).trans (above i hi))

/-! ### The stream named for a pressure seal (R37) -/

section
variable {s : State}

theorem State.pressureCandidate_iff (i : Nat) : s.pressureCandidate i = true ↔ (s.stream i).cls = .tenant ∧
    (s.stream i).state ≠ .free ∧ (s.stream i).state ≠ .halted ∧ 1 ≤ s.uncut i ∧ (s.stream i).sealing ≠ .pending := by
  simp only [State.pressureCandidate, Bool.and_eq_true, decide_eq_true_eq, and_assoc]

/-- Stream i is the choice among the candidates that satisfy p: the oldest, the first among equals. -/
def State.namedAmong (s : State) (p : Nat → Prop) (i : Nat) : Prop :=
  p i ∧ s.pressureCandidate i = true ∧
    ∀ j, p j → s.pressureCandidate j = true → s.uncutAge j < s.uncutAge i ∨ (s.uncutAge j = s.uncutAge i ∧ i ≤ j)

/-- What one step of the search does to the choice among the streams seen, all of lower index. -/
theorem State.olderCandidate_cases (best : Option Nat) (seen : List Nat) (x : Nat) (hx : ∀ j ∈ seen, j < x)
    (hn : best = none → ∀ j ∈ seen, s.pressureCandidate j = false) (hs : ∀ b, best = some b → s.namedAmong (· ∈ seen) b) :
    (s.olderCandidate best x = none → ∀ j ∈ seen ++ [x], s.pressureCandidate j = false) ∧
      ∀ b, s.olderCandidate best x = some b → s.namedAmong (· ∈ seen ++ [x]) b := by
  by_cases cand : s.pressureCandidate x = true
  · cases best with
    | none =>
      have none_seen := hn rfl
      refine ⟨fun h => by simp [State.olderCandidate, cand] at h, fun b hb => ?_⟩
      simp only [State.olderCandidate, cand, if_true, Option.some.injEq] at hb
      subst hb
      refine ⟨by simp, cand, fun j hj hc => ?_⟩
      rcases List.mem_append.mp hj with hj | hj
      · rw [none_seen j hj] at hc; cases hc
      · obtain rfl := List.mem_singleton.mp hj; exact .inr ⟨rfl, le_rfl⟩
    | some c =>
      obtain ⟨hc, cand_c, oldest⟩ := hs c rfl
      by_cases older : s.uncutAge c < s.uncutAge x
      · refine ⟨fun h => by simp [State.olderCandidate, cand, older] at h, fun b hb => ?_⟩
        simp only [State.olderCandidate, cand, older, if_true, Option.some.injEq] at hb
        subst hb
        refine ⟨by simp, cand, fun j hj hcj => ?_⟩
        rcases List.mem_append.mp hj with hj | hj
        · rcases oldest j hj hcj with h | h <;> exact .inl (by omega)
        · obtain rfl := List.mem_singleton.mp hj; exact .inr ⟨rfl, le_rfl⟩
      · refine ⟨fun h => by simp [State.olderCandidate, cand, older] at h, fun b hb => ?_⟩
        simp only [State.olderCandidate, cand, older, if_true, if_false, Option.some.injEq] at hb
        subst hb
        refine ⟨by simp [hc], cand_c, fun j hj hcj => ?_⟩
        rcases List.mem_append.mp hj with hj | hj
        · exact oldest j hj hcj
        · obtain rfl := List.mem_singleton.mp hj
          have := hx c hc
          omega
  · have keep : s.olderCandidate best x = best := by simp [State.olderCandidate, cand]
    rw [keep]
    refine ⟨fun h j hj => ?_, fun b hb => ?_⟩
    · rcases List.mem_append.mp hj with hj | hj
      · exact hn h j hj
      · obtain rfl := List.mem_singleton.mp hj; simpa using cand
    · obtain ⟨hb', cand_b, oldest⟩ := hs b hb
      refine ⟨by simp [hb'], cand_b, fun j hj hcj => ?_⟩
      rcases List.mem_append.mp hj with hj | hj
      · exact oldest j hj hcj
      · obtain rfl := List.mem_singleton.mp hj; exact absurd hcj cand

theorem State.foldl_olderCandidate (rest : List Nat) (seen : List Nat) (best : Option Nat)
    (hr : (seen ++ rest).Pairwise (· < ·)) (hn : best = none → ∀ j ∈ seen, s.pressureCandidate j = false)
    (hs : ∀ b, best = some b → s.namedAmong (· ∈ seen) b) :
    (rest.foldl s.olderCandidate best = none → ∀ j ∈ seen ++ rest, s.pressureCandidate j = false) ∧
      ∀ b, rest.foldl s.olderCandidate best = some b → s.namedAmong (· ∈ seen ++ rest) b := by
  induction rest generalizing seen best with
  | nil => simpa using ⟨hn, hs⟩
  | cons x rest ih =>
    have below : ∀ j ∈ seen, j < x := fun j hj => (List.pairwise_append.mp hr).2.2 j hj x (by simp)
    obtain ⟨none_named, named⟩ := State.olderCandidate_cases best seen x below hn hs
    have rising : ((seen ++ [x]) ++ rest).Pairwise (· < ·) := by simpa using hr
    simpa using ih (seen ++ [x]) (s.olderCandidate best x) rising none_named named

theorem State.mem_streams_of_candidate {i : Nat} (h : s.pressureCandidate i = true) : i ∈ Table.indices s.streams := by
  obtain ⟨-, opened, -⟩ := (State.pressureCandidate_iff i).mp h
  exact Table.mem_indices _ _ _ (Stream.ne_powerOn opened)

theorem State.pressureStream_spec (h : Table.canonical .powerOn s.streams = true) :
    (s.pressureStream = none → ∀ j, s.pressureCandidate j = false) ∧
      ∀ b, s.pressureStream = some b → s.namedAmong (fun _ => True) b := by
  obtain ⟨-, rising⟩ := Table.indices_pairwise _ _ 0 h
  obtain ⟨none_named, named⟩ := State.foldl_olderCandidate (Table.indices s.streams) [] none (by simpa using rising)
    (by simp) (by simp)
  refine ⟨fun hp j => ?_, fun b hb => ?_⟩
  · by_contra hc
    have cand : s.pressureCandidate j = true := by simpa using hc
    exact hc (none_named hp j (by simpa using State.mem_streams_of_candidate cand))
  · obtain ⟨-, cand, oldest⟩ := named b hb
    exact ⟨trivial, cand, fun j _ hc => oldest j (by simpa using State.mem_streams_of_candidate hc) hc⟩

end

/-- Settles O37: the search keeps, of the candidates seen, the oldest and the first among equals. -/
theorem pressureNamesTheOldest : Obligations.PressureNamesTheOldest := by
  unfold Obligations.PressureNamesTheOldest
  intro s canonical
  simp only [← State.pressureCandidate_iff]
  obtain ⟨none_named, named⟩ := State.pressureStream_spec canonical
  refine ⟨fun i => ⟨fun h => ?_, fun ⟨cand, oldest⟩ => ?_⟩, fun h j => by simp [none_named h j], fun h => ?_⟩
  · obtain ⟨-, cand, oldest⟩ := named i h
    exact ⟨cand, fun j hj => oldest j trivial hj⟩
  · cases hp : s.pressureStream with
    | none => rw [none_named hp i] at cand; cases cand
    | some b =>
      obtain ⟨-, cand_b, oldest_b⟩ := named b hp
      have h1 := oldest b cand_b
      have h2 := oldest_b i trivial cand
      exact congrArg some (by omega)
  · cases hp : s.pressureStream with
    | none => rfl
    | some b => exact absurd (named b hp).2.1 (h b)

/-! ### TAKE BATCH, plain form (R101) -/

theorem Queues.at_put (q : Queues) (pl : Place) (l : List Nat) (pl' : Place) :
    (q.put pl l).at pl' = if pl' = pl then l else q.at pl' := by
  rcases pl with (_ | _) | _ <;> rcases pl' with (_ | _) | _ <;> rfl

theorem takeBatchAct_eq {s : State} {p : Port} {c : Core} (hw : s.working = true) (hc : portCore p = some c) :
    takeBatchAct p s = s.takeNext c := by
  rw [takeBatchAct, State.whileRunOrDrain_pass _ hw, hc]

/-- A notice condition that a batch or an event made true, and that no event has left, is true still. -/
theorem State.notice_of_queue {s : State} {p : Port} {c : Core} (hc : portCore p = some c)
    (h : s.queues.at (.core c) ≠ []) : s.notice p = true := by
  simp [State.notice, hc, h]

/-- The dispatch queue of one core bears on the notice condition of its port alone. -/
theorem State.notice_congr {s t : State} {p : Port} (he : (t.port p).events = (s.port p).events)
    (hq : ∀ c, portCore p = some c → t.queues.at (.core c) = s.queues.at (.core c)) : t.notice p = s.notice p := by
  cases hc : portCore p with
  | none => simp [State.notice, he, hc]
  | some c => simp [State.notice, he, hc, hq c hc]

/-- Settles O40. The batch that is taken leaves a notice condition that was true. -/
theorem takeBatchTakesTheHead : Obligations.TakeBatchTakesTheHead := by
  unfold Obligations.TakeBatchTakesTheHead
  intro v c s hr hw hc
  have act := takeBatchAct_eq (s := s.setLink v.port .taken) hw hc
  refine ⟨fun empty => exec_quiet hr (act.trans ?_) rfl rfl, fun n rest b hq hb => ?_⟩
  · have none_waits : (s.setLink v.port .taken).queues.at (.core c) = [] := empty
    rw [State.takeNext, none_waits]; rfl
  · rw [exec_of_isRequest (State.reaches_isRequest hr)]
    refine congrArg Host.Outcome.next (requestStep_answered _ _ _ _ _ _ hr (act.trans ?_) fun p => ?_)
    · have head : (s.setLink v.port .taken).queues.at (.core c) = n :: rest := hq
      have batch : ((s.setLink v.port .taken).slot n).batch = some b := hb
      simp only [State.takeNext, head, batch, State.take, List.tail_cons]
      rfl
    · by_cases hp : portCore p = some c
      · exact .inl (State.notice_of_queue hp (by simp [hq]))
      · refine (Bool.eq_false_or_eq_true (s.notice p)).imp_right fun h => (State.notice_congr ?_ ?_).trans h
        · rfl
        · intro k hk
          refine (Queues.at_put _ _ _ _).trans (if_neg fun same => hp (hk.trans ?_))
          cases same; rfl

/-! ### The checks of BATCH RESULT (R103) -/

theorem State.onResult_working {s : State} {p : Port} {slot : Half} {gen result : Byte} {k : Batch → Reply}
    (hw : s.working = true) : s.onResult p slot gen result k =
      if 511 < slot.toNat || 1 < result.toNat then s.refuse .range
      else
        match s.heldBatch p slot.toNat gen with
        | none => s.refuse .stale
        | some (b, _) => if b.unit = (s.segment b.seg).doneUnits then k b else s.refuse .order := by
  rw [State.onResult, State.whileRunOrDrain_pass _ hw] <;> rfl

/-- A result whose ticket names a batch is handed on, or refused ORDER, by its unit. -/
theorem State.onResult_held {s : State} {p : Port} {slot : Half} {gen result : Byte} {k : Batch → Reply} {b : Batch}
    {deadline : Word} (hw : s.working = true) (hn : slot.toNat ≤ 511) (hres : result.toNat ≤ 1)
    (hb : s.heldBatch p slot.toNat gen = some (b, deadline)) : s.onResult p slot gen result k =
      if b.unit = (s.segment b.seg).doneUnits then k b else s.refuse .order := by
  rw [State.onResult_working hw, if_neg (by simp [hn, hres]), hb]

theorem State.whileRunOrDrain_stop {s : State} (k : Reply) :
    (s.device = .config → s.whileRunOrDrain k = s.refuse .notRunning) ∧
      (s.device = .drained → s.whileRunOrDrain k = s.refuse .power) := by
  refine ⟨fun hd => ?_, fun hd => ?_⟩ <;> rw [State.whileRunOrDrain, hd]

/-- Both results make the same checks. -/
theorem requestAct_result {v : Via} {slot : Half} {gen result : Byte} {i : Instr}
    (h : i = .batchResultDone v slot gen ∧ result = 0 ∨ i = .batchResultFailed v slot gen result) (s : State) :
    i.via = v ∧ ∃ k, requestAct i s = s.onResult v.port slot gen result k := by
  rcases h with ⟨rfl, rfl⟩ | rfl <;> exact ⟨rfl, _, rfl⟩

/-- Settles O42, by `State.heldBatch_eq_some_iff`. -/
theorem resultRefusals : Obligations.ResultRefusals := by
  unfold Obligations.ResultRefusals
  intro v slot gen result s i hi hr
  obtain ⟨via, k, act⟩ := requestAct_result hi (s.setLink v.port .taken)
  have refused {c : Code} (h : (s.setLink v.port .taken).onResult v.port slot gen result k =
      (s.setLink v.port .taken).refuse c) : exec i s = .next (s.answered i c []) := by
    refine exec_refused hr ?_
    rw [via, act, h]
  refine ⟨fun hd => refused ((State.whileRunOrDrain_stop (s := s.setLink v.port .taken) _).1 hd),
    fun hd => refused ((State.whileRunOrDrain_stop (s := s.setLink v.port .taken) _).2 hd), fun hw h => refused ?_,
    fun hw hn hres => ?_⟩
  · rw [State.onResult_working (s := s.setLink v.port .taken) hw, if_pos (by simpa using h)]
  · simp only [← State.heldBatch_eq_some_iff]
    refine ⟨fun h => refused ?_, fun b deadline h order => refused ?_⟩
    · have stale : (s.setLink v.port .taken).heldBatch v.port slot.toNat gen = none :=
        Option.eq_none_iff_forall_ne_some.mpr fun ⟨b, deadline⟩ hb => h ⟨b, deadline, hb⟩
      rw [State.onResult_working (s := s.setLink v.port .taken) hw, if_neg (by simp [hn, hres]), stale]
    · exact (State.onResult_held (s := s.setLink v.port .taken) hw hn hres h).trans (if_neg order)

/-! ### INVALIDATE (R131, R132) -/

theorem State.badStale_iff {s : State} (e : StaleEntry) : s.badStale e = true ↔
    ¬ (e.die.toNat < s.geo.dies ∧ e.block.toNat < s.geo.blocks ∧ 1 ≤ e.count.toNat) := by
  rw [← Bool.not_eq_false, not_iff_not]
  simp only [State.badStale, Bool.or_eq_false_iff, Bool.not_eq_false', State.hasSegment, Bool.and_eq_true,
    decide_eq_false_iff_not, staleSeg, and_assoc, Nat.one_le_iff_ne_zero]
  exact and_congr decide_eq_true_iff (and_congr decide_eq_true_iff Iff.rfl)

theorem SegmentState.tracked_iff (st : SegmentState) :
    st.tracked = true ↔ st = .opened ∨ st = .filled ∨ st = .closed ∨ st = .victim := by
  cases st <;> simp [SegmentState.tracked]

section
variable {e : Segment} {x : Nat}

theorem Segment.invalidate_applied (h : e.state.tracked = true) (hx : x ≤ e.valid) :
    e.invalidate x = ({ e with valid := e.valid - x }, .applied) := by
  rw [Segment.invalidate, if_neg (by simp [h]), if_pos hx]

theorem Segment.invalidate_underflow (h : e.state.tracked = true) (hx : e.valid < x) :
    e.invalidate x = ({ e with valid := 0, suspect := true }, .underflow) := by
  rw [Segment.invalidate, if_neg (by simp [h]), if_neg hx.not_ge]

theorem Segment.invalidate_notTracked (h : ¬ e.state.tracked = true) : e.invalidate x = (e, .notTracked) := by
  rw [Segment.invalidate, if_pos (by simpa using h)]

end

theorem invalidateAct_eq {s : State} (es : List StaleEntry) (hw : s.working = true) : invalidateAct es s =
    if es.length < 1 || 32 < es.length || es.any s.badStale then s.refuse .range
    else ⟨.ok, staleCounts (State.invalidateEntries es s).1, (State.invalidateEntries es s).2⟩ :=
  State.whileRunOrDrain_pass _ hw

/-- Settles O46. -/
theorem invalidateLowersTheValidCount : Obligations.InvalidateLowersTheValidCount := by
  unfold Obligations.InvalidateLowersTheValidCount
  intro v es s hr hw
  have act := invalidateAct_eq (s := s.setLink v.port .taken) es hw
  refine ⟨fun h => exec_refused hr (act.trans (if_pos ?_)), fun e he known => ?_⟩
  · simp only [Bool.or_eq_true, decide_eq_true_eq, List.any_eq_true, or_assoc]
    refine h.imp_right (Or.imp_right fun ⟨e, mem, bad⟩ => ⟨e, mem, ?_⟩)
    exact (State.badStale_iff (s := s.setLink v.port .taken) e).mpr bad
  · subst he
    have good : (s.setLink v.port .taken).badStale e = false := by
      rw [← Bool.not_eq_true, State.badStale_iff]
      exact not_not_intro known
    rw [if_neg (by simp [good])] at act
    simp only [← SegmentState.tracked_iff]
    refine ⟨fun tracked less => exec_quiet hr (act.trans ?_) rfl rfl,
      fun tracked more => exec_quiet hr (act.trans ?_) rfl rfl,
      fun untracked canonical => exec_quiet hr (act.trans ?_) rfl rfl⟩
    · have applied := Segment.invalidate_applied (e := s.segment (staleSeg e)) tracked less
      simp only [State.invalidateEntries, State.setLink_segment, applied]
      rfl
    · have underflow := Segment.invalidate_underflow (e := s.segment (staleSeg e)) tracked more
      simp only [State.invalidateEntries, State.setLink_segment, underflow]
      rfl
    · have not_tracked := Segment.invalidate_notTracked (e := s.segment (staleSeg e)) (x := e.count.toNat) untracked
      simp only [State.invalidateEntries, State.setLink_segment, not_tracked, State.setLink_setSegment,
        State.setSegment_self s _ canonical]
      rfl

end Sys2Proof.Machine
end

section
/-! The settlement of O50 to O52: the geometry, the limits, the die map and the loaded segments (Chapter 10). -/

namespace Sys2Proof.Machine

/-! ### Updates of the dies, one by one -/

/-- A fold whose every step changes one die changes each die it meets once, and nothing else. -/
theorem State.foldl_dies {step : State → Nat → State} {change : Nat → Die → Die} (s : State)
    (h : ∀ t d, t.control = s.control → step t d = { t with dies := (step t d).dies } ∧
      ∀ x, (step t d).die x = if x = d then change d (t.die d) else t.die x) (ds : List Nat) (hn : ds.Nodup) :
    ds.foldl step s = { s with dies := (ds.foldl step s).dies } ∧
      ∀ x, (ds.foldl step s).die x = if x ∈ ds then change x (s.die x) else s.die x := by
  induction ds generalizing s with
  | nil => exact ⟨rfl, fun x => by simp⟩
  | cons d ds ih =>
    obtain ⟨rest, dies⟩ := h s d rfl
    have control : (step s d).control = s.control := by rw [rest]
    obtain ⟨fresh, hn⟩ := List.nodup_cons.mp hn
    obtain ⟨ih_rest, ih_dies⟩ := ih (step s d) (fun t d' ht => h t d' (ht.trans control)) hn
    rw [List.foldl_cons]
    refine ⟨?_, fun x => ?_⟩
    · rw [ih_rest, rest]
    · rw [ih_dies, dies]
      by_cases hx : x = d
      · subst hx; simp [fresh]
      · simp [hx]

/-! ### SET GEOMETRY, LOCK GEOMETRY and START (R178, R182) -/

theorem Geometry.inBounds_iff (g : Geometry) : g.inBounds = true ↔
    1 ≤ g.dies ∧ g.dies ≤ 64 ∧ 16 ≤ g.blocks ∧ g.blocks ≤ 4096 ∧ g.dies * g.blocks ≤ 65536 ∧
      16 ≤ g.units ∧ g.units ≤ 1024 ∧ 4 ≤ g.sectors ∧ g.sectors ≤ 64 ∧ g.units * g.sectors ≤ 65535 := by
  simp only [Geometry.inBounds, Bool.and_eq_true, decide_eq_true_eq, and_assoc]

theorem State.applyGeometry_spec (s : State) (g : Geometry) :
    s.applyGeometry g = { s.setControl { s.control with geometry := some g } with dies := (s.applyGeometry g).dies } ∧
      ∀ d, (s.applyGeometry g).die d = if g.dies ≤ d ∧ d < 64 then (s.die d).withoutCore else s.die d := by
  obtain ⟨rest, dies⟩ := State.foldl_dies (step := State.dropCore)
    (change := fun d v => if g.dies ≤ d then v.withoutCore else v) (s.setControl { s.control with geometry := some g })
    (fun t d ht => by
      have geo : t.geo = g := by rw [State.geo, ht]; rfl
      unfold State.dropCore
      rw [geo]
      split
      · exact ⟨rfl, fun x => State.setDie_die ..⟩
      · exact ⟨rfl, fun x => by split <;> simp_all⟩) (List.range 64) List.nodup_range
  refine ⟨rest, fun d => (dies d).trans ?_⟩
  have listed : d ∈ List.range 64 ↔ d < 64 := List.mem_range
  by_cases hd : d < 64
  · simp only [listed.mpr hd, hd, if_true, and_true, State.setControl_die]
  · simp only [mt listed.mp hd, hd, if_false, and_false, State.setControl_die]

theorem State.whileConfig_stop {s : State} (k : Reply) : (s.device = .run → s.whileConfig k = s.refuse .state) ∧
    (s.device = .drain ∨ s.device = .drained → s.whileConfig k = s.refuse .power) := by
  refine ⟨fun hd => ?_, fun hd => ?_⟩
  · rw [State.whileConfig, hd]
  · rcases hd with hd | hd <;> rw [State.whileConfig, hd]

section
variable {s : State}

theorem setGeometryAct_eq (dies : Byte) (blocks units : Half) (sectors : Byte) (hd : s.device = .config) :
    setGeometryAct dies blocks units sectors s =
      let g : Geometry := ⟨dies.toNat, blocks.toNat, units.toNat, sectors.toNat⟩
      if s.control.locked then s.refuse .locked
      else if !g.inBounds then s.refuse .range
      else ⟨.ok, two g.capacity, s.applyGeometry g⟩ := State.whileConfig_pass _ hd

theorem lockGeometryAct_eq (hd : s.device = .config) : lockGeometryAct s =
    if s.control.geometry = none then s.refuse .state
    else ⟨.ok, [], s.setControl { s.control with locked := true }⟩ := State.whileConfig_pass _ hd

theorem startAct_eq (hd : s.device = .config) : startAct s =
    if !s.control.locked || !s.mapComplete then s.refuse .state
    else ⟨.ok, [], s.setControl { s.control with device := .run }⟩ := State.whileConfig_pass _ hd

theorem State.mapComplete_iff : s.mapComplete = true ↔
    ∃ h, s.control.geometry = some h ∧ ∀ d, d < h.dies → (s.die d).configured ≠ none := by
  cases hg : s.control.geometry with
  | none => simp [State.mapComplete, hg]
  | some g => simp [State.mapComplete, State.geo, hg, Option.isSome_iff_ne_none]

theorem State.startRefused_iff : (!s.control.locked || !s.mapComplete) = true ↔ ¬ (s.control.locked = true ∧
    ∃ h, s.control.geometry = some h ∧ ∀ d, d < h.dies → (s.die d).configured ≠ none) := by
  rw [← State.mapComplete_iff, ← Bool.not_and, Bool.not_eq_true', ← Bool.not_eq_true, Bool.and_eq_true]

/-- The link field has no part in the die map or the geometry. -/
theorem State.setLink_applyGeometry (p : Port) (l : Link) (g : Geometry) :
    (s.setLink p l).applyGeometry g = (s.applyGeometry g).setLink p l := by
  have fold (ds : List Nat) (t : State) :
      ds.foldl State.dropCore (t.setLink p l) = (ds.foldl State.dropCore t).setLink p l := by
    induction ds generalizing t with
    | nil => rfl
    | cons d ds ih =>
      have one_step : (t.setLink p l).dropCore d = (t.dropCore d).setLink p l := by
        unfold State.dropCore
        rw [State.setLink_geo]
        split <;> rfl
      rw [List.foldl_cons, List.foldl_cons, one_step, ih]
  unfold State.applyGeometry
  rw [State.setLink_setControl, fold]
  rfl

end

/-- Settles O50. -/
theorem geometryIsSetLockedAndStarted : Obligations.GeometryIsSetLockedAndStarted := by
  unfold Obligations.GeometryIsSetLockedAndStarted
  intro v dies blocks units sectors s set g sound
  refine ⟨fun i hi hr => ?_, fun hr hd => ?_, fun hr hd => ?_, fun hr hd => ?_⟩
  · have config : i.kind.toNat ∈ [0x15, 0x16, 0x18, 0x19, 0x1A] := by
      rcases hi with rfl | rfl | rfl <;> simp [Instr.kind, set]
    obtain ⟨k, act⟩ := requestAct_whileConfig config (s.setLink i.via.port .taken)
    have stop := State.whileConfig_stop (s := s.setLink i.via.port .taken) k
    exact ⟨fun hd => exec_refused hr (act.trans (stop.1 hd)), fun hd => exec_refused hr (act.trans (stop.2 hd))⟩
  · have act := setGeometryAct_eq (s := s.setLink v.port .taken) dies blocks units sectors hd
    refine ⟨fun hl => exec_refused hr (act.trans (if_pos hl)), fun hl bad => exec_refused hr (act.trans ?_),
      fun hl good => ⟨s.applyGeometry g, exec_quiet hr (act.trans ?_) ?_ ?_, (State.applyGeometry_spec s g)⟩⟩
    · refine (if_neg (by simp [hl])).trans (if_pos ?_)
      rw [Bool.not_eq_true', ← Bool.not_eq_true, Geometry.inBounds_iff]
      exact bad
    · have inside : g.inBounds = true := (Geometry.inBounds_iff g).mpr good
      refine (if_neg (by simp [hl])).trans ((if_neg (by simpa using inside)).trans ?_)
      rw [State.setLink_applyGeometry]; rfl
    · rw [(State.applyGeometry_spec s g).1]; rfl
    · rw [(State.applyGeometry_spec s g).1]; rfl
  · have act := lockGeometryAct_eq (s := s.setLink v.port .taken) hd
    exact ⟨fun hg => exec_refused hr (act.trans (if_pos hg)),
      fun hg => exec_quiet hr (act.trans (if_neg hg)) rfl rfl⟩
  · have act := startAct_eq (s := s.setLink v.port .taken) hd
    refine ⟨fun h => exec_refused hr (act.trans (if_pos ?_)),
      fun h => exec_quiet hr (act.trans (if_neg ?_)) rfl rfl⟩
    · exact State.startRefused_iff.mpr h
    · exact fun refused => State.startRefused_iff.mp refused h

/-! ### SET LIMITS (R179) -/

/-- The limits with one of them, by its selector, stored. -/
def Limits.withLimit (l : Limits) (n x : Nat) : Limits :=
  { holdUp := if n = 0 then x else l.holdUp
    reclaimHeld := if n = 1 then x else l.reclaimHeld
    reclaimRecords := if n = 2 then x else l.reclaimRecords
    dieInFlight := if n = 3 then x else l.dieInFlight
    reclaimTimeout := if n = 4 then x else l.reclaimTimeout
    highWater := if n = 0 then min l.highWater x else if n = 5 then (if n = 5 then min x l.holdUp else x) else l.highWater
    batchDeadline := if n = 6 then x else l.batchDeadline
    overdue := if n = 7 then (if x = 0 then .report else .takeover) else l.overdue
    failureLimit := if n = 8 then x else l.failureLimit
    lowWater := if n = 9 then x else l.lowWater }

/-- Table 10-2 by selector: lowest and highest value, and whether the limit is set in CONFIG alone. -/
def limitTable : List (Nat × Nat × Bool) := [(256, 65535, true), (0, 65535, true), (0, 2048, true), (1, 8, true),
  (0, 2000, true), (0, 65535, false), (10, 2000, false), (0, 1, false), (1, 7, false), (0, 31, false)]

/-- The limit of a selector in the table has the table's range, and is stored under that selector. -/
theorem limitOf_known {b : Byte} {low high : Nat} {configOnly : Bool} (h : limitTable[b.toNat]? = some (low, high, configOnly)) :
    ∃ name, limitOf b = some name ∧ name.range = (low, high) ∧ name.configOnly = configOnly ∧
      (name = .holdUp ↔ b.toNat = 0) ∧ ∀ (l : Limits) (x : Nat),
        l.store name (l.stored name x) = l.withLimit b.toNat x ∧
        name.field (l.stored name x) =
          if b.toNat = 7 then one x else two (if b.toNat = 5 then min x l.holdUp else x) := by
  have bound : b.toNat < 10 := (List.getElem?_eq_some_iff.mp h).1
  unfold limitOf
  generalize b.toNat = n at h bound ⊢
  have cases : n = 0 ∨ n = 1 ∨ n = 2 ∨ n = 3 ∨ n = 4 ∨ n = 5 ∨ n = 6 ∨ n = 7 ∨ n = 8 ∨ n = 9 := by omega
  rcases cases with rfl | rfl | rfl | rfl | rfl | rfl | rfl | rfl | rfl | rfl <;> cases h <;>
    exact ⟨_, rfl, rfl, rfl, by decide, fun l x => ⟨rfl, rfl⟩⟩

theorem limitOf_unknown {b : Byte} (h : 10 ≤ b.toNat) : limitOf b = none := by
  unfold limitOf
  generalize b.toNat = n at h ⊢
  split
  all_goals first | omega | rfl

section
variable {s : State} {selector : Byte} {value : Half} {name : LimitName}

theorem setLimitsAct_eq (hd : s.device = .config ∨ s.device = .run) (h : limitOf selector = some name) :
    setLimitsAct selector value s =
      if !name.admits value.toNat then s.refuse .range
      else if s.device = .run && name.configOnly then s.refuse .state
      else if name = .holdUp && value.toNat < s.reserves none then s.refuse .range
      else ⟨.ok, name.field (s.limits.stored name value.toNat), s.setControl { s.control with
        limits := s.limits.store name (s.limits.stored name value.toNat) }⟩ := by
  rw [setLimitsAct, State.beforeDrain_pass _ hd, h]

theorem setLimitsAct_unknown (hd : s.device = .config ∨ s.device = .run) (h : limitOf selector = none) :
    setLimitsAct selector value s = s.refuse .range := by
  rw [setLimitsAct, State.beforeDrain_pass _ hd, h]

end

theorem LimitName.admits_iff {name : LimitName} {low high : Nat} (h : name.range = (low, high)) (x : Nat) :
    name.admits x = true ↔ low ≤ x ∧ x ≤ high := by
  rw [LimitName.admits, h, Bool.and_eq_true, decide_eq_true_eq, decide_eq_true_eq]

/-- Settles O51, by the table's row for the selector (`limitOf_known`). -/
theorem setLimitsStoresOneLimit : Obligations.SetLimitsStoresOneLimit := by
  unfold Obligations.SetLimitsStoresOneLimit
  intro v selector value s hr hd i n x l ranges
  refine ⟨fun h => exec_refused hr (setLimitsAct_unknown (s := s.setLink v.port .taken) hd (limitOf_unknown h)),
    fun low high configOnly row => ?_⟩
  obtain ⟨name, named, range, config, holdUp, stored⟩ := limitOf_known row
  have admits := LimitName.admits_iff range value.toNat
  have act := setLimitsAct_eq (s := s.setLink v.port .taken) (value := value) hd named
  have pass (hl : low ≤ x) (hh : x ≤ high) := act.trans (if_neg (by simpa using admits.mpr ⟨hl, hh⟩))
  refine ⟨fun h => exec_refused hr (act.trans (if_pos ?_)), fun hl hh hc hrun => exec_refused hr ?_,
    fun hl hh h0 hcon short => exec_refused hr ?_, fun hl hh hc h0 => exec_quiet hr ?_ rfl rfl⟩
  · rw [Bool.not_eq_true', ← Bool.not_eq_true, admits]
    exact fun ⟨hl, hh⟩ => h.elim (fun h => h.not_ge hl) fun h => h.not_ge hh
  · refine (pass hl hh).trans (if_pos ?_)
    rw [config, hc, Bool.and_true, decide_eq_true_eq]
    exact hrun
  · refine (pass hl hh).trans ((if_neg ?_).trans (if_pos ?_))
    · have not_run : (s.setLink v.port .taken).device ≠ .run := by
        show s.device ≠ .run
        rw [hcon]; decide
      rw [Bool.and_eq_true, decide_eq_true_eq]
      exact fun h => not_run h.1
    · rw [Bool.and_eq_true, decide_eq_true_eq, decide_eq_true_eq]
      exact ⟨holdUp.mpr h0, short⟩
  · refine (pass hl hh).trans ((if_neg ?_).trans ((if_neg ?_).trans ?_))
    · rw [config, Bool.and_eq_true, decide_eq_true_eq]
      rintro ⟨hrun, hconf⟩
      have := (hc hconf).symm.trans hrun
      cases this
    · rw [Bool.and_eq_true, decide_eq_true_eq, decide_eq_true_eq]
      rintro ⟨hname, short⟩
      exact absurd (h0 (holdUp.mp hname)) (not_le.mpr short)
    · obtain ⟨store, field⟩ := stored s.limits value.toNat
      have limits : (s.setLink v.port .taken).limits = s.limits := rfl
      rw [limits, store, field]
      rfl

/-! ### SET DIE MAP (R180) -/

/-- The core that a byte of the die map gives its die; a byte that is no core value gives none. -/
def mappedCore (b : Byte) : Option Core := if b = 0 then some .core0 else if b = 1 then some .core1 else none

theorem dieCoreOf_eq (b : Byte) : dieCoreOf b = if b.toNat ≤ 1 ∨ b = 0xFF then some (mappedCore b) else none := by
  unfold dieCoreOf mappedCore
  by_cases h0 : b = 0
  · subst h0; rfl
  by_cases h1 : b = 1
  · subst h1; rfl
  have high : ¬ b.toNat ≤ 1 := fun h => (byte_le_one h).elim h0 h1
  by_cases hf : b = 0xFF
  · subst hf; rfl
  · simp only [h0, h1, hf, high, if_false, or_self]

theorem dieCoreOf_getD (b : Byte) : (dieCoreOf b).getD none = mappedCore b := by
  rw [dieCoreOf_eq]
  split
  · rfl
  · rename_i h
    have h0 : b ≠ 0 := by rintro rfl; exact h (.inl (by decide))
    have h1 : b ≠ 1 := by rintro rfl; exact h (.inl (by decide))
    rw [mappedCore, if_neg h0, if_neg h1]; rfl

/-- A byte names no core, or the die it stands for lies below D and it names one. -/
def soundByte (dies d : Nat) (b : Byte) : Prop := b = 0xFF ∨ (d < dies ∧ b.toNat ≤ 1)

theorem mapRefused_iff {s : State} {cores : List Byte} (hl : cores.length = 64) :
    ((cores.any fun b => dieCoreOf b = none) || s.mapsBeyond cores) = false ↔
      ∀ d, d < 64 → soundByte s.geo.dies d (cores.getD d 0xFF) := by
  have byte (d : Nat) (hd : d < 64) : cores.getD d 0xFF = cores[d]'(by omega) := by
    rw [List.getD_eq_getElem]
  simp only [Bool.or_eq_false_iff, State.mapsBeyond, List.any_eq_false, decide_eq_true_eq]
  constructor
  · rintro ⟨named, beyond⟩ d hd
    rw [byte d hd]
    have named_d := named _ (List.getElem_mem (l := cores) (n := d) (by omega))
    rw [dieCoreOf_eq, ite_eq_right_iff] at named_d
    by_cases hf : cores[d]'(by omega) = 0xFF
    · exact .inl hf
    have low : (cores[d]'(by omega)).toNat ≤ 1 := by
      by_contra high
      exact named_d fun h => (h.elim high hf).elim
    refine .inr ⟨?_, low⟩
    by_contra above
    have mem : cores[d]'(by omega) ∈ cores.drop s.geo.dies := by
      refine List.mem_iff_getElem.mpr ⟨d - s.geo.dies, by rw [List.length_drop]; omega, ?_⟩
      rw [List.getElem_drop]
      congr 1
      omega
    have none_core := not_not.mp (beyond _ mem)
    rw [dieCoreOf_eq, if_pos (.inl low)] at none_core
    rcases byte_le_one low with h | h <;> rw [h] at none_core <;> cases none_core
  · intro sound
    refine ⟨fun b hb => ?_, fun b hb => not_not.mpr ?_⟩
    · obtain ⟨d, hd, rfl⟩ := List.mem_iff_getElem.mp hb
      have h := sound d (by omega)
      rw [byte d (by omega)] at h
      rw [dieCoreOf_eq, if_pos (h.elim .inr fun h => .inl h.2)]
      nofun
    · obtain ⟨d, hd, rfl⟩ := List.mem_iff_getElem.mp hb
      rw [List.length_drop] at hd
      have h := sound (s.geo.dies + d) (by omega)
      rw [byte _ (by omega)] at h
      rw [List.getElem_drop]
      rcases h with h | ⟨below, -⟩
      · rw [h]; rfl
      · omega

theorem State.setDieMap_spec (s : State) (cores : List Byte) :
    (List.range Config.dies).foldl (State.assignDie cores) s =
        { s with dies := ((List.range Config.dies).foldl (State.assignDie cores) s).dies } ∧
      ∀ d, ((List.range Config.dies).foldl (State.assignDie cores) s).die d = if d < 64 then
        { s.die d with configured := mappedCore (cores.getD d 0xFF), assigned := mappedCore (cores.getD d 0xFF) }
      else s.die d := by
  obtain ⟨rest, dies⟩ := State.foldl_dies (step := State.assignDie cores)
    (change := fun d v => { v with
      configured := mappedCore (cores.getD d 0xFF), assigned := mappedCore (cores.getD d 0xFF) }) s
    (fun t d _ => by
      unfold State.assignDie
      rw [dieCoreOf_getD]
      exact ⟨rfl, fun x => State.setDie_die ..⟩) (List.range 64) List.nodup_range
  refine ⟨rest, fun d => (dies d).trans ?_⟩
  have listed : d ∈ List.range 64 ↔ d < 64 := List.mem_range
  by_cases hd : d < 64
  · simp only [listed.mpr hd, hd, if_true]
  · simp only [mt listed.mp hd, hd, if_false]

theorem State.setLink_setDieMap (s : State) (p : Port) (l : Link) (cores : List Byte) (ds : List Nat) :
    ds.foldl (State.assignDie cores) (s.setLink p l) = (ds.foldl (State.assignDie cores) s).setLink p l := by
  induction ds generalizing s with
  | nil => rfl
  | cons d ds ih => exact ih (State.assignDie cores s d)

theorem setDieMapAct_eq {s : State} {cores : List Byte} {h : Geometry} (hd : s.device = .config)
    (hg : s.control.geometry = some h) : setDieMapAct cores s =
      if (cores.any fun b => dieCoreOf b = none) || s.mapsBeyond cores then s.refuse .range
      else ⟨.ok, [], (List.range Config.dies).foldl (State.assignDie cores) s⟩ :=
  (State.whileConfig_pass _ hd).trans (if_neg (by rw [hg]; nofun))

/-! ### LOAD SEGMENT (R181) -/

theorem loadSegmentAct_eq {s : State} {e : LoadEntry} (hd : s.device = .config) : loadSegmentAct [e] s =
    if !s.control.locked then s.refuse .state
    else ⟨.ok, outcomesPayload [(s.loadEntry e).1], (s.loadEntry e).2⟩ := State.whileConfig_pass _ hd

section
variable {s : State} {e : LoadEntry} {h : Geometry}

theorem State.geo_of_some (hg : s.control.geometry = some h) : s.geo = h := by rw [State.geo, hg]; rfl

theorem State.hasSegment_iff (hg : s.control.geometry = some h) (g : Seg) :
    s.hasSegment g = true ↔ g.die < h.dies ∧ g.block < h.blocks := by
  rw [State.hasSegment, State.geo_of_some hg, Bool.and_eq_true, decide_eq_true_eq, decide_eq_true_eq]

theorem segmentClassOf_eq (b : Byte) : segmentClassOf b =
    if b.toNat ≤ 2 then some (if b = 0 then .tenant else if b = 1 then .reclaim else .unknown) else none := by
  unfold segmentClassOf
  by_cases h0 : b = 0
  · subst h0; rfl
  by_cases h1 : b = 1
  · subst h1; rfl
  by_cases h2 : b = 2
  · subst h2; rfl
  have high : ¬ b.toNat ≤ 2 := by
    intro low
    have : b.toNat = 0 ∨ b.toNat = 1 ∨ b.toNat = 2 := by omega
    rcases this with h | h | h
    · exact h0 (BitVec.eq_of_toNat_eq h)
    · exact h1 (BitVec.eq_of_toNat_eq h)
    · exact h2 (BitVec.eq_of_toNat_eq h)
  simp only [h0, h1, h2, high, if_false]

theorem State.loadEntry_kind (hk : 1 < e.kind.toNat) : s.loadEntry e = (.range, s) := by
  have h0 : e.kind ≠ 0 := by intro h; rw [h] at hk; exact absurd hk (by decide)
  have h1 : e.kind ≠ 1 := by intro h; rw [h] at hk; exact absurd hk (by decide)
  rw [State.loadEntry, if_neg h0, if_neg h1]

theorem State.loadWritten_unknown (hs : s.hasSegment (loadSeg e) = false ∨ s.geo.capacity < e.valid.toNat ∨ 2 < e.cls.toNat) :
    s.loadWritten e = (.range, s) := by
  rw [State.loadWritten, segmentClassOf_eq]
  by_cases hc : e.cls.toNat ≤ 2
  · have beyond : (!s.hasSegment (loadSeg e) || decide (s.geo.capacity < e.valid.toNat)) = true := by
      rcases hs with h | h | h
      · simp [h]
      · simp [h]
      · omega
    simp only [hc, if_true, beyond]
  · simp only [hc, if_false]

theorem State.loadWritten_known (hs : s.hasSegment (loadSeg e) = true) (hv : e.valid.toNat ≤ s.geo.capacity)
    (hc : e.cls.toNat ≤ 2) : s.loadWritten e =
      if (s.segment (loadSeg e)).state ≠ .untracked then (.state, s)
      else (.ok, s.setSegment (loadSeg e) (loadedSegment e
        (if e.cls = 0 then .tenant else if e.cls = 1 then .reclaim else .unknown) s.geo.units s.closeSeq)) := by
  rw [State.loadWritten, segmentClassOf_eq, if_pos hc]
  refine if_neg ?_
  simp [hs, hv]

theorem State.loadEntry_unknown (hs : s.hasSegment (loadSeg e) = false) : s.loadEntry e = (.range, s) := by
  by_cases h0 : e.kind = 0
  · rw [State.loadEntry, if_pos h0, State.loadWritten_unknown (.inl hs)]
  · by_cases h1 : e.kind = 1
    · rw [State.loadEntry, if_neg h0, if_pos h1, State.loadRetired, if_pos (by simp [hs])]
    · rw [State.loadEntry, if_neg h0, if_neg h1]

theorem State.loadEntry_retired (hk : e.kind = 1) (hs : s.hasSegment (loadSeg e) = true) : s.loadEntry e =
    if (s.segment (loadSeg e)).state = .untracked then
      (.ok, s.setSegment (loadSeg e) { Segment.powerOn with state := .retired })
    else if (s.segment (loadSeg e)).state = .retired then (.ok, s) else (.state, s) := by
  rw [State.loadEntry, if_neg (by rw [hk]; decide), if_pos hk, State.loadRetired, if_neg (by simp [hs])]
  cases (s.segment (loadSeg e)).state <;> rfl

end

/-- Settles O52. -/
theorem diesAndSegmentsAreLoaded : Obligations.DiesAndSegmentsAreLoaded := by
  unfold Obligations.DiesAndSegmentsAreLoaded
  intro v s h hd hg
  refine ⟨fun cores hr => ?_, fun e hr => ?_⟩
  · have length : cores.length = 64 := by
      have wf := (State.reaches_ready hr).1
      have dies : cores.length = Config.dies := by simpa [Instr.wellFormed] using wf
      exact dies
    have act := setDieMapAct_eq (s := s.setLink v.port .taken) (cores := cores) hd hg
    have sound_iff := mapRefused_iff (s := s.setLink v.port .taken) length
    rw [State.geo_of_some (s := s.setLink v.port .taken) hg] at sound_iff
    refine ⟨fun bad => exec_refused hr (act.trans (if_pos ?_)), fun good =>
      ⟨_, exec_quiet hr (act.trans ((if_neg ?_).trans ?_)) ?_ ?_, State.setDieMap_spec s cores⟩⟩
    · rw [← Bool.not_eq_false]
      exact fun h => bad (sound_iff.mp h)
    · rw [Bool.not_eq_true]
      exact sound_iff.mpr good
    · exact congrArg (Reply.mk .ok []) (State.setLink_setDieMap ..)
    · rw [(State.setDieMap_spec s cores).1]
    · rw [(State.setDieMap_spec s cores).1]
  · have act := loadSegmentAct_eq (s := s.setLink v.port .taken) (e := e) hd
    refine ⟨fun hl => exec_refused hr (act.trans (if_pos (by simpa using hl))), fun hl => ?_⟩
    rw [if_neg (by simpa using hl)] at act
    have known_iff := State.hasSegment_iff (s := s.setLink v.port .taken) hg (loadSeg e)
    have geo := State.geo_of_some (s := s.setLink v.port .taken) hg
    have refused {c : Code} (hc : c ≠ .ok)
        (he : (s.setLink v.port .taken).loadEntry e = (c, s.setLink v.port .taken)) :
        exec (.loadSegment v [e]) s = .next (s.answered (.loadSegment v [e]) .ok [0, 0, 1, c.byte]) := by
      refine exec_quiet hr (act.trans ?_) rfl rfl
      rw [he]
      have payload : outcomesPayload [c] = [0, 0, 1, c.byte] := by
        simp [outcomesPayload, hc, listOf, one, two, bytes16]
      simp only [payload]
      rfl
    have taken {u : State} (he : (s.setLink v.port .taken).loadEntry e = (.ok, u.setLink v.port .taken))
        (hq : u.queues = s.queues) (hp : u.ports = s.ports) :
        exec (.loadSegment v [e]) s = .next (u.answered (.loadSegment v [e]) .ok [1, 0, 1, 0]) := by
      refine exec_quiet hr (act.trans ?_) hq hp
      have payload : outcomesPayload [.ok] = [1, 0, 1, 0] := by decide
      rw [he]
      simp only [payload]
      rfl
    refine ⟨fun hk => refused (by decide) ?_, fun hk known bad => refused (by decide) ?_, fun hk known hv hc => ?_,
      fun hk known => ?_⟩
    · rcases hk with hk | unknown
      · exact State.loadEntry_kind hk
      · exact State.loadEntry_unknown (Bool.eq_false_iff.mpr (mt known_iff.mp unknown))
    · rw [State.loadEntry, if_pos hk]
      refine State.loadWritten_unknown (.inr (bad.imp_left fun hv => ?_))
      rw [geo]; exact hv
    · have written := State.loadWritten_known (known_iff.mpr known) (e := e) (by rw [geo]; exact hv) hc
      rw [geo] at written
      refine ⟨fun hs => refused (by decide) ?_, fun hs => taken ?_ rfl rfl⟩
      · rw [State.loadEntry, if_pos hk, written]
        exact if_pos hs
      · rw [State.loadEntry, if_pos hk, written]
        exact if_neg (not_not.mpr hs)
    · have retired := State.loadEntry_retired hk (known_iff.mpr known)
      refine ⟨fun hs => taken (retired.trans ?_) rfl rfl, fun hs => taken (retired.trans ?_) rfl rfl,
        fun hs hs' => refused (by decide) (retired.trans ?_)⟩
      · exact if_pos hs
      · exact (if_neg (by rw [State.setLink_segment]; exact fun h => nomatch hs.symm.trans h)).trans (if_pos hs)
      · exact (if_neg hs).trans (if_neg hs')

end Sys2Proof.Machine
end

section
/-! What a step does to the event queues, said once: `State.Does` splits a step into what it does to everything but the
ports and the events it queues, in order; `exec_answers` and `settle_does` give from it the words of the statements. -/

namespace Sys2Proof.Machine

/-! ### The events a port receives (R170) -/

/-- A port after status events: each enters while there is room, and is lost after that. -/
def PortState.receives (p : PortState) (capacity : Nat) (es : List Event) : PortState :=
  { p with events := p.events ++ es.take (capacity - p.events.length)
           lost := p.lost || decide (capacity - p.events.length < es.length) }

@[simp] theorem PortState.receives_nil (p : PortState) (capacity : Nat) : p.receives capacity [] = p := by
  simp [PortState.receives]

theorem PortState.receives_receives (p : PortState) (capacity : Nat) (a b : List Event) :
    (p.receives capacity a).receives capacity b = p.receives capacity (a ++ b) := by
  have room : capacity - (p.events.length + min (capacity - p.events.length) a.length) =
      capacity - p.events.length - a.length := by omega
  have lost : (p.lost || decide (capacity - p.events.length < a.length) ||
      decide (capacity - p.events.length - a.length < b.length)) =
        (p.lost || decide (capacity - p.events.length < a.length + b.length)) := by
    rw [Bool.or_assoc, ← Bool.decide_or]
    congr 2
    exact propext (by omega)
  simp only [PortState.receives, List.length_append, List.length_take, List.take_append, List.append_assoc, room, lost]

/-- Between s and t nothing happened to the ports but events: `told p` on port p, in order. -/
def State.sends (s t : State) (told : Port → List Event) : Prop :=
  ∀ p, t.port p = (s.port p).receives (eventCapacity p) (told p)

theorem State.sends_of_ports {s t : State} (h : t.ports = s.ports) : s.sends t fun _ => [] := fun p => by
  rw [PortState.receives_nil]
  exact congrArg (Ports.at · p) h

theorem State.sends.trans {s t u : State} {a b : Port → List Event} (h : s.sends t a) (h' : t.sends u b) :
    s.sends u fun p => a p ++ b p := fun p => by
  rw [h' p, h p, PortState.receives_receives]

theorem State.sends_emit (s : State) (p : Port) (e : Event) : s.sends (s.emit p e) fun q => if q = p then [e] else [] := by
  intro q
  rw [State.emit_eq, State.setPort_port]
  by_cases hq : q = p
  · subst hq
    simp only [if_true]
    by_cases room : (s.port q).events.length < eventCapacity q
    · have pos : eventCapacity q - (s.port q).events.length = eventCapacity q - (s.port q).events.length - 1 + 1 := by omega
      rw [if_pos (by simpa [State.hasRoom] using room), PortState.receives, pos]
      simp
    · have zero : eventCapacity q - (s.port q).events.length = 0 := by omega
      rw [if_neg (by simpa [State.hasRoom] using room), PortState.receives, zero]
      simp
  · simp only [hq, if_false, PortState.receives_nil]

theorem State.pushEvent_eq_emit {s : State} {p : Port} (h : s.hasRoom p = true) (e : Event) : s.pushEvent p e = s.emit p e := by
  rw [State.emit, if_pos h]

/-! ### A step apart from its ports -/

/-- A state with its ports replaced. -/
def State.withPorts (s : State) (ps : Ports) : State := { s with ports := ps }

/-- t is `base` but for the ports, which differ from those of s by the events `told`. -/
structure State.Does (s t base : State) (told : Port → List Event) : Prop where
  rest : t = { base with ports := t.ports }
  sends : s.sends t told

namespace State.Does
variable {s t base : State} {told : Port → List Event}

theorem withPorts (h : s.Does t base told) (ps : Ports) : t.withPorts ps = base.withPorts ps := by
  have both := congrArg (State.withPorts · ps) h.rest
  exact both

theorem port (h : s.Does t base told) (p : Port) : t.port p = (s.port p).receives (eventCapacity p) (told p) := h.sends p

theorem refl (s : State) : s.Does s s fun _ => [] := ⟨rfl, State.sends_of_ports rfl⟩

theorem of_ports (h : t.ports = s.ports) : s.Does t t fun _ => [] := ⟨rfl, State.sends_of_ports h⟩

/-- An operation that neither reads nor writes the ports acts on the base. -/
theorem map (h : s.Does t base told) (f : State → State) (hf : ∀ (x : State) ps, f { x with ports := ps } = { f x with ports := ps })
    (hp : ∀ x, (f x).ports = x.ports) : s.Does (f t) (f base) told := by
  refine ⟨?_, fun p => (congrArg (Ports.at · p) (hp t)).trans (h.sends p)⟩
  rw [hp t]
  exact (congrArg f h.rest).trans (hf _ _)

theorem emit (h : s.Does t base told) (p : Port) (e : Event) :
    s.Does (t.emit p e) base fun q => told q ++ if q = p then [e] else [] := by
  refine ⟨?_, h.sends.trans (State.sends_emit t p e)⟩
  exact (State.emit_rest t p e).trans (h.withPorts _)

theorem told_eq {told' : Port → List Event} (h : s.Does t base told) (ht : ∀ p, told p = told' p) : s.Does t base told' :=
  ⟨h.rest, fun p => by rw [← ht p]; exact h.sends p⟩

theorem base_eq {base' : State} (h : s.Does t base told) (hb : { base with ports := t.ports } = { base' with ports := t.ports }) :
    s.Does t base' told := ⟨h.rest.trans hb, h.sends⟩

/-- A later part of the step, which starts from t. -/
theorem trans {u base' : State} {told' : Port → List Event} (h : s.Does t base told) (h' : t.Does u base' told') :
    s.Does u base' fun p => told p ++ told' p := ⟨h'.rest, h.sends.trans h'.sends⟩

/-- A later part of the step whose own base is an operation, apart from the ports, on t. -/
theorem bind {u : State} {told' : Port → List Event} (h : s.Does t base told) (f : State → State)
    (hf : ∀ (x : State) ps, f (x.withPorts ps) = (f x).withPorts ps) (h' : t.Does u (f t) told') :
    s.Does u (f base) fun p => told p ++ told' p := by
  refine ⟨?_, h.sends.trans h'.sends⟩
  calc u = (f t).withPorts u.ports := h'.rest
    _ = f (t.withPorts u.ports) := (hf ..).symm
    _ = f (base.withPorts u.ports) := by rw [h.withPorts]
    _ = (f base).withPorts u.ports := hf ..

theorem emitToDie (h : s.Does t base told) (d : Nat) (e : Event) : s.Does (t.emitToDie d e) base fun q =>
    told q ++ if (base.die d).assigned.any (fun c => q = c.port) then [e] else [] := by
  have die : t.die d = base.die d := by rw [h.rest]; rfl
  rw [State.emitToDie, die]
  cases hd : (base.die d).assigned with
  | none => exact h.told_eq fun p => by simp
  | some c =>
    refine (h.emit c.port e).told_eq fun p => ?_
    by_cases hp : p = c.port <;> simp [hp]

theorem emitToCores (h : s.Does t base told) (e : Event) : s.Does (t.emitToCores e) base fun q =>
    told q ++ if q = .mp0 ∨ q = .mp1 then [e] else [] := by
  refine ((h.emit .mp0 e).emit .mp1 e).told_eq fun p => ?_
  cases p <;> simp

end State.Does

/-! ### The end of the step (R173) -/

theorem settlePort_port (s : State) (q : Port) (t : State) (p : Port) : (settlePort s q t).port p =
    if p = q then { t.port p with pulse := (t.port p).pulse || ((t.port p).mode = .pulse && !s.notice p && t.notice p) }
    else t.port p := by
  unfold settlePort
  by_cases hp : p = q
  · subst hp
    rw [if_pos rfl]
    split
    · rename_i starts
      rw [State.setPort_port_same, starts, Bool.or_true]
    · rename_i starts
      rw [Bool.eq_false_iff.mpr starts, Bool.or_false]
  · rw [if_neg hp]
    split
    · rw [State.setPort_port, if_neg hp]
    · rfl

theorem settlePort_notice (s : State) (q : Port) (t : State) (p : Port) : (settlePort s q t).notice p = t.notice p := by
  have queues : (settlePort s q t).queues = t.queues := by rw [settlePort_rest]
  refine State.notice_congr ?_ fun c _ => by rw [queues]
  rw [settlePort_port]
  split <;> rfl

/-- The end of a step starts the pulse of each port in PULSE mode whose notice condition has become true. -/
theorem settle_port (s t : State) (p : Port) : (settle s t).port p =
    { t.port p with pulse := (t.port p).pulse || ((t.port p).mode = .pulse && !s.notice p && t.notice p) } := by
  cases p <;> simp [settle, settlePort_port, settlePort_notice]

theorem settle_notice (s t : State) (p : Port) : (settle s t).notice p = t.notice p := by
  simp only [settle, settlePort_notice]

/-- The end of a step whose ports received the events `told`: those are the events it delivers. -/
theorem settle_delivers {s u : State} {told : Port → List Event}
    (h : ∀ p, (u.port p).events = ((s.port p).receives (eventCapacity p) (told p)).events ∧
      (u.port p).lost = ((s.port p).receives (eventCapacity p) (told p)).lost ∧
      (u.port p).mode = (s.port p).mode ∧ (u.port p).pulse = (s.port p).pulse) : s.delivers (settle s u) told := by
  intro p
  obtain ⟨events, lost, mode, pulse⟩ := h p
  rw [settle_notice, settle_port]
  exact ⟨events, lost, mode, by rw [← mode, ← pulse]⟩

theorem settle_does {s u base : State} {told : Port → List Event} (h : s.Does u base told) :
    s.hasNoAnswer (settle s u) ∧ s.delivers (settle s u) told ∧ settle s u = { base with ports := (settle s u).ports } := by
  refine ⟨fun p => ?_, settle_delivers fun p => ?_, ?_⟩
  · rw [settle_port, h.sends p]; exact ⟨rfl, rfl, rfl⟩
  · rw [h.sends p]; exact ⟨rfl, rfl, rfl, rfl⟩
  · exact (settle_rest s u).trans (h.withPorts _)

/-- The execution of a request that reaches its owner, from what its owner's act does. -/
theorem exec_answers {s u base : State} {i : Instr} {code : Code} {payload : List Byte} {told : Port → List Event}
    (hr : s.reaches i = true) (ha : requestAct i (s.setLink i.via.port .taken) = ⟨code, payload, u⟩)
    (h : (s.setLink i.via.port .taken).Does u base told) :
    ∃ t, exec i s = .next t ∧ s.hasAnswer t i code payload ∧ s.delivers t told ∧ t = { base with ports := t.ports } := by
  refine ⟨settle s (placeResponse i.via.port i.kind i.via.crc ⟨code, payload, u⟩), ?_, fun p => ?_,
    settle_delivers fun p => ?_, ?_⟩
  · rw [exec_of_isRequest (State.reaches_isRequest hr), requestStep_reaches i _ s hr, ha]
  · rw [settle_port, placeResponse, State.setPort_port]
    by_cases hp : p = i.via.port
    · subst hp
      simp only [if_true, h.port, State.setLink_port_same]
      exact ⟨rfl, rfl, rfl⟩
    · simp only [hp, if_false, h.port, State.setLink_port, List.append_nil]
      exact ⟨rfl, rfl, rfl⟩
  · rw [placeResponse, State.setPort_port]
    by_cases hp : p = i.via.port
    · subst hp
      simp only [if_true, h.port, State.setLink_port_same]
      exact ⟨rfl, rfl, rfl, rfl⟩
    · simp only [hp, if_false, h.port, State.setLink_port]
      exact ⟨trivial, trivial, rfl, rfl⟩
  · exact (settle_rest ..).trans (h.withPorts _)

/-- Events that all find room are told in full. -/
theorem State.delivers.tells {s t : State} {told : Port → List Event} (h : s.delivers t told)
    (room : ∀ p, told p ≠ [] → (s.port p).events.length + (told p).length ≤ eventCapacity p) : s.tells t told := by
  intro p
  obtain ⟨events, lost, mode, pulse⟩ := h p
  have fits : (told p).length ≤ eventCapacity p - (s.port p).events.length := by
    by_cases quiet : told p = []
    · rw [quiet]; exact Nat.zero_le _
    · exact Nat.le_sub_of_add_le' (room p quiet)
  refine ⟨?_, ?_, mode, pulse⟩
  · rw [events, List.take_of_length_le fits]
  · rw [lost, decide_eq_false fits.not_gt, Bool.or_false]

/-- The same, with the room that a statement asks for. -/
theorem State.delivers.tells_of_roomFor {s t : State} {told : Port → List Event} {k : Nat} (h : s.delivers t told)
    (room : s.roomFor k) (few : ∀ p, (told p).length ≤ k) : s.tells t told :=
  h.tells fun p _ => (Nat.add_le_add_left (few p) _).trans (room p)

theorem State.delivers.congr {s t : State} {told told' : Port → List Event} (h : s.delivers t told)
    (ht : ∀ p, told p = told' p) : s.delivers t told' := by
  rwa [← funext ht]

end Sys2Proof.Machine
end

section
/-! The settlement of O29, O39, O49 and O53: the waits a SET FUNCTION opens, SUPPLY, the requests on victims, and
RESTART. -/

namespace Sys2Proof.Machine

/-! ### The BUDGET waits that are opened (R40) -/

/-- Does the headroom of function f cover its BUDGET wait? -/
def State.opensBudgetWait (s : State) (f : Nat) : Bool :=
  match (s.function f).wait with
  | .budget n => decide ((n : Int) ≤ s.headroom f)
  | .records _ => false
  | .none => false

/-- A function's record without its wait. -/
def Function.noWait (fr : Function) : Function := { fr with wait := .none }

theorem openBudgetWait_opens {s : State} {f : Nat} (h : s.opensBudgetWait f = true) : openBudgetWait s f =
    (s.emit .fp (.admissionOpen (some f))).setFunction f (s.function f).noWait := by
  cases hw : (s.function f).wait with
  | none => simp [State.opensBudgetWait, hw] at h
  | records n => simp [State.opensBudgetWait, hw] at h
  | budget n =>
    have covered : (n : Int) ≤ s.headroom f := by simpa [State.opensBudgetWait, hw] using h
    simp only [openBudgetWait, hw, covered, if_true]
    rfl

theorem openBudgetWait_keeps {s : State} {f : Nat} (h : s.opensBudgetWait f = false) : openBudgetWait s f = s := by
  cases hw : (s.function f).wait with
  | none => simp only [openBudgetWait, hw]
  | records n => simp only [openBudgetWait, hw]
  | budget n =>
    have short : ¬ (n : Int) ≤ s.headroom f := by simpa [State.opensBudgetWait, hw] using h
    simp only [openBudgetWait, hw, short, if_false]

/-- The wait of one function has no part in what the others' headroom covers. -/
theorem State.opensBudgetWait_of_function {s t : State} {f : Nat} (hf : t.function f = s.function f)
    (hb : t.budget = s.budget) (hl : t.limits = s.limits) : t.opensBudgetWait f = s.opensBudgetWait f := by
  have headroom : t.headroom f = s.headroom f := by simp only [State.headroom, hf, hb, hl]
  rw [State.opensBudgetWait, State.opensBudgetWait, hf, headroom]

/-- Testing the waits of functions, each once: the covered ones are opened in order. -/
theorem State.foldl_openBudgetWait (fs : List Nat) (s : State) (hn : fs.Nodup) :
    s.Does (fs.foldl openBudgetWait s) { s with functions := (fs.foldl openBudgetWait s).functions }
        (fun p => if p = .fp then (fs.filter s.opensBudgetWait).map fun g => .admissionOpen (some g) else []) ∧
      ∀ g, (fs.foldl openBudgetWait s).function g =
        if g ∈ fs ∧ s.opensBudgetWait g = true then (s.function g).noWait else s.function g := by
  induction fs generalizing s with
  | nil => exact ⟨(State.Does.refl s).told_eq fun p => by simp, fun g => by simp⟩
  | cons f fs ih =>
    obtain ⟨fresh, hn⟩ := List.nodup_cons.mp hn
    rw [List.foldl_cons]
    cases covered : s.opensBudgetWait f with
    | false =>
      rw [openBudgetWait_keeps covered]
      obtain ⟨does, functions⟩ := ih s hn
      refine ⟨does.told_eq fun p => by simp [covered], fun g => (functions g).trans ?_⟩
      by_cases hg : g = f
      · subst hg; simp [fresh, covered]
      · simp [hg]
    | true =>
      rw [openBudgetWait_opens covered]
      have opened := ((State.Does.refl s).emit .fp (.admissionOpen (some f))).map
        (State.setFunction · f (s.function f).noWait) (fun _ _ => rfl) fun _ => rfl
      generalize (s.emit .fp (.admissionOpen (some f))).setFunction f (s.function f).noWait = t at opened ⊢
      have rest := opened.rest
      have function (g : Nat) : t.function g = if g = f then (s.function f).noWait else s.function g := by
        rw [rest]; exact State.setFunction_function ..
      have later {g : Nat} (hg : g ≠ f) : t.opensBudgetWait g = s.opensBudgetWait g := by
        refine State.opensBudgetWait_of_function ((function g).trans (if_neg hg)) ?_ ?_ <;> rw [rest] <;> rfl
      obtain ⟨does, functions⟩ := ih t hn
      have whole := opened.bind (fun x => { x with functions := (fs.foldl openBudgetWait t).functions }) (fun _ _ => rfl) does
      refine ⟨whole.told_eq fun p => ?_, fun g => (functions g).trans ?_⟩
      · have same : fs.filter t.opensBudgetWait = fs.filter s.opensBudgetWait :=
          List.filter_congr fun g hg => later fun h => fresh (h ▸ hg)
        by_cases hp : p = .fp <;> simp [hp, same, covered]
      · by_cases hg : g = f
        · subst hg
          simp [fresh, function, covered]
        · rw [later hg, function g]
          simp [hg]

theorem State.mem_functions_of_opens {s : State} {f : Nat} (h : s.opensBudgetWait f = true) :
    f ∈ Table.indices s.functions := by
  refine Table.mem_indices .powerOn _ _ fun same => ?_
  have wait : (s.function f).wait = .none := congrArg Function.wait same
  rw [State.opensBudgetWait, wait] at h
  cases h

/-- R40 on a canonical Function Table. -/
theorem State.openBudgetWaits_spec (s : State) (h : Table.canonical .powerOn s.functions = true) :
    s.Does s.openBudgetWaits { s with functions := s.openBudgetWaits.functions } (fun p => if p = .fp then
        ((Table.indices s.functions).filter s.opensBudgetWait).map fun g => .admissionOpen (some g) else []) ∧
      ∀ g, s.openBudgetWaits.function g =
        if s.opensBudgetWait g = true then (s.function g).noWait else s.function g := by
  obtain ⟨-, rising⟩ := Table.indices_pairwise _ _ 0 h
  obtain ⟨does, functions⟩ := State.foldl_openBudgetWait (Table.indices s.functions) s (rising.imp fun h => h.ne)
  refine ⟨does, fun g => (functions g).trans ?_⟩
  by_cases covered : s.opensBudgetWait g = true
  · simp [covered, State.mem_functions_of_opens covered]
  · simp [covered]

/-- The state a SET FUNCTION that enables has stored, before the waits are tested (R43). -/
def State.stored (s : State) (f r c t : Nat) : State :=
  (s.setFunction f { s.function f with
    reserve := r, cap := c, timeout := t,
    state := if (s.function f).state = .disabled then .enabled else (s.function f).state }).setBudget
      { s.budget with unused := s.budget.unused + (r - (s.function f).held) -
        (if (s.function f).state = .disabled then 0 else (s.function f).reserve - (s.function f).held) }

theorem State.applySettings_enable (s : State) (f r c t : Nat) :
    s.applySettings f true r c t = (s.stored f r c t).openBudgetWaits := by
  have settings := Function.settings_eq (s.function f) (e := 1) le_rfl r c t
  have term : ((s.function f).settings true r c t).term = r - (s.function f).held := by
    simp [Function.term, Function.settings, Function.spare]
    intro h; split at h <;> simp_all
  simp only [decide_true, one_ne_zero, if_false, false_and] at settings
  unfold State.applySettings
  dsimp only
  rw [term, settings]
  rfl

/-- Settles O29. -/
theorem setFunctionOpensTheWaits : Obligations.SetFunctionOpensTheWaits := by
  unfold Obligations.SetFunctionOpensTheWaits
  intro v fn enable reserve cap timeout s hr hd canonical i f r hres hcap htime hen hsum fr stored opens opened room
  have canonical' : Table.canonical .powerOn ((s.setLink v.port .taken).stored f r cap.toNat timeout.toNat).functions = true :=
    Table.canonical_write _ _ _ _ canonical
  have act := setFunctionAct_inRange (s := s.setLink v.port .taken) (fn := fn) (enable := enable) (reserve := reserve)
    (cap := cap) (timeout := timeout) hd ⟨hres, hcap, htime, hen.le⟩
  have sum : (s.setLink v.port .taken).reservesAfter fn.toNat (decide (enable.toNat = 1)) reserve.toNat =
      s.reserves (some fn.toNat) + reserve.toNat := by
    simp [State.reservesAfter, hen]; rfl
  have within : ¬ (s.setLink v.port .taken).limits.holdUp < (s.setLink v.port .taken).reservesAfter fn.toNat
      (decide (enable.toNat = 1)) reserve.toNat := not_lt.mpr (sum.trans_le hsum)
  rw [if_neg (by simp [hen]), if_neg within, decide_eq_true hen, State.applySettings_enable] at act
  obtain ⟨does, functions⟩ := State.openBudgetWaits_spec _ canonical'
  have before := (State.Does.refl (s.setLink v.port .taken)).map (State.stored · f r cap.toNat timeout.toNat)
    (fun _ _ => rfl) fun _ => rfl
  obtain ⟨t, run, answer, delivers, rest⟩ := exec_answers hr act (before.trans does)
  refine ⟨t, run, answer, ?_, fun g => ?_, ?_⟩
  · rw [rest]; rfl
  · rw [rest]
    exact functions g
  · have told : s.delivers t fun p => if p = .fp then opened.map fun g => .admissionOpen (some g) else [] :=
      delivers.congr fun p => by simp; rfl
    refine told.tells fun p some_told => ?_
    by_cases hp : p = .fp
    · subst hp
      rw [if_pos rfl, List.length_map]
      exact room
    · exact absurd (if_neg hp) some_told

/-! ### SUPPLY (R74 to R76) -/

theorem State.setDie_setDie (s : State) (d : Nat) {v : Die} (w : Die) (h : v ≠ .powerOn) :
    (s.setDie d v).setDie d w = s.setDie d w := by
  simp only [State.setDie, Table.write_write _ _ _ _ _ h]

/-- A die whose record was just written, with a segment in its free queue, and its supply looked at (R76). -/
theorem State.clearSupplyLow_setDie (s : State) (d : Nat) (v : Die) (h : v.freeQueue ≠ []) :
    (s.setDie d v).clearSupplyLow d = s.setDie d { v with
      supplyLow := if s.limits.lowWater ≤ v.freeQueue.length then false else v.supplyLow } := by
  unfold State.clearSupplyLow
  rw [State.setDie_die_same]
  by_cases low : s.limits.lowWater ≤ v.freeQueue.length
  · rw [if_pos low]
    refine (if_pos low).trans (State.setDie_setDie s d _ fun same => h ?_)
    rw [same]; rfl
  · rw [if_neg low]
    exact if_neg low

theorem State.waiterFor_none {s : State} {d : Nat} (h : ∀ n ∈ s.waitSupply, (s.stream n).mask.getLsbD d = false) :
    s.waiterFor d = none :=
  List.find?_eq_none.mpr fun n hn => by rw [h n hn]; decide

/-- A die with no core, no free segment or no stream waiting for it serves none (R85). -/
theorem State.supplyArbiter_idle {s : State} {d : Nat} (h : (s.die d).assigned = none ∨ (s.die d).freeQueue = [] ∨
    ∀ n ∈ s.waitSupply, (s.stream n).mask.getLsbD d = false) : s.supplyArbiter d = s := by
  unfold State.supplyArbiter
  cases s.waitSupply.length with
  | zero => rfl
  | succ fuel =>
    rw [State.serveSupply]
    rcases h with h | h | h
    · rw [if_neg (by simp [h])]
    · rw [if_neg (by simp [h])]
    · rw [State.waiterFor_none h]
      split <;> rfl

section
variable {s : State} {p : Port} {e : SegmentName}

theorem supplyAct_refused {c : Code} (hd : s.device ≠ .drained) (hl : s.control.locked = true) (hc : c ≠ .ok)
    (h : s.supplyRefusal p (segOf e) = some c) : supplyAct p [e] s = ⟨.ok, [0, 0, 1, c.byte], s⟩ := by
  have payload : outcomesPayload [c] = [0, 0, 1, c.byte] := by simp [outcomesPayload, hc, listOf, one, two, bytes16]
  refine (State.untilDrained_pass _ hd).trans ((if_neg (by simp [hl])).trans ((if_neg (by simp)).trans ?_))
  simp only [State.supplyEntries, h, payload]

theorem supplyAct_taken (hd : s.device ≠ .drained) (hl : s.control.locked = true)
    (h : s.supplyRefusal p (segOf e) = none) : supplyAct p [e] s = ⟨.ok, [1, 0, 1, 0], s.supplyEntry (segOf e)⟩ := by
  have payload : outcomesPayload [.ok] = [1, 0, 1, 0] := by decide
  refine (State.untilDrained_pass _ hd).trans ((if_neg (by simp [hl])).trans ((if_neg (by simp)).trans ?_))
  simp only [State.supplyEntries, h, payload]

/-- The checks of an entry, in their order (R75). -/
theorem State.supplyRefusal_eq (g : Seg) : s.supplyRefusal p g =
    if ¬ (g.die < s.geo.dies ∧ g.block < s.geo.blocks) then some .range
    else if ¬ (∃ c, portCore p = some c ∧ (s.die g.die).assigned = some c) then some .notPermitted
    else if (s.segment g).state ≠ .untracked then some .state
    else if 32 ≤ (s.die g.die).freeQueue.length then some .full else none := by
  have known : (!s.hasSegment g) = true ↔ ¬ (g.die < s.geo.dies ∧ g.block < s.geo.blocks) := by
    rw [Bool.not_eq_true', ← Bool.not_eq_true, State.hasSegment, Bool.and_eq_true, decide_eq_true_eq, decide_eq_true_eq]
  have mine : ((s.die g.die).assigned = none || (s.die g.die).assigned ≠ portCore p) = true ↔
      ¬ ∃ c, portCore p = some c ∧ (s.die g.die).assigned = some c := by
    cases (s.die g.die).assigned with
    | none => simp
    | some a =>
      cases portCore p with
      | none => simp
      | some c => simp
  unfold State.supplyRefusal
  simp only [known, mine]
  rfl

/-- A taken entry for which no stream waits. -/
theorem State.supplyEntry_quiet (g : Seg) (h : ∀ n ∈ s.waitSupply, (s.stream n).mask.getLsbD g.die = false) :
    s.supplyEntry g = (s.setSegment g { Segment.powerOn with state := .free }).setDie g.die { s.die g.die with
      freeQueue := (s.die g.die).freeQueue ++ [g.block]
      supplyLow := if s.limits.lowWater ≤ (s.die g.die).freeQueue.length + 1 then false
        else (s.die g.die).supplyLow } := by
  have low := State.clearSupplyLow_setDie (s.setSegment g { Segment.powerOn with state := .free }) g.die
    { s.die g.die with freeQueue := (s.die g.die).freeQueue ++ [g.block] } (by simp)
  rw [List.length_append] at low
  unfold State.supplyEntry State.addFree
  rw [low]
  exact State.supplyArbiter_idle (.inr (.inr h))

end

/-- Settles O39. -/
theorem supplyTakesASegment : Obligations.SupplyTakesASegment := by
  unfold Obligations.SupplyTakesASegment
  intro v e s hr hd i d b g die entryRefused known mine
  have refusal := State.supplyRefusal_eq (s := s.setLink v.port .taken) (p := v.port) (segOf e)
  refine ⟨fun hl => exec_refused hr ((State.untilDrained_pass (s := s.setLink v.port .taken) _ hd).trans
    (if_pos (by simpa using hl))), fun hl => ?_⟩
  have refused {c : Code} (hc : c ≠ .ok) (h : (s.setLink v.port .taken).supplyRefusal v.port (segOf e) = some c) :
      entryRefused c :=
    exec_quiet hr (supplyAct_refused (s := s.setLink v.port .taken) hd hl hc h) rfl rfl
  refine ⟨fun hk => refused (by decide) (refusal.trans (if_pos hk)),
    fun hk hm => refused (by decide) (refusal.trans ((if_neg (not_not.mpr hk)).trans (if_pos hm))),
    fun hk hm hs => refused (by decide) (refusal.trans ?_), fun hk hm hs full => refused (by decide) (refusal.trans ?_),
    fun hk hm hs room waits => exec_quiet hr ((supplyAct_taken (s := s.setLink v.port .taken) hd hl
      (refusal.trans ?_)).trans ?_) rfl rfl⟩
  · exact (if_neg (not_not.mpr hk)).trans ((if_neg (not_not.mpr hm)).trans (if_pos hs))
  · exact (if_neg (not_not.mpr hk)).trans ((if_neg (not_not.mpr hm)).trans ((if_neg (not_not.mpr hs)).trans (if_pos full)))
  · exact (if_neg (not_not.mpr hk)).trans ((if_neg (not_not.mpr hm)).trans ((if_neg (not_not.mpr hs)).trans
      (if_neg (not_le.mpr room))))
  · rw [State.supplyEntry_quiet (s := s.setLink v.port .taken) (segOf e) waits]
    rfl

/-! ### RETURN, RELEASE and RETIRE SEGMENT (R142 to R147) -/

section
variable {s : State}

theorem State.onSegment_eq (g : SegmentName) (k : Seg → Reply) (hw : s.working = true) : s.onSegment g k =
    if (segOf g).die < s.geo.dies ∧ (segOf g).block < s.geo.blocks then k (segOf g) else s.refuse .range := by
  rw [State.onSegment, State.whileRunOrDrain_pass _ hw]
  simp only [State.hasSegment, Bool.and_eq_true]
  exact if_congr (and_congr decide_eq_true_iff decide_eq_true_iff) rfl rfl

/-- All three requests refuse a segment that the geometry does not have. -/
theorem requestAct_unknownSegment {v : Via} {g : SegmentName} {i : Instr}
    (hi : i = .returnSegment v g ∨ i = .releaseSegment v g ∨ i = .retireSegment v g) (hw : s.working = true)
    (unknown : ¬ ((segOf g).die < s.geo.dies ∧ (segOf g).block < s.geo.blocks)) : requestAct i s = s.refuse .range := by
  rcases hi with rfl | rfl | rfl
  · show returnSegmentAct g s = _
    exact (State.onSegment_eq g _ hw).trans (if_neg unknown)
  · show releaseSegmentAct g s = _
    exact (State.onSegment_eq g _ hw).trans (if_neg unknown)
  · show retireSegmentAct g s = _
    exact (State.onSegment_eq g _ hw).trans (if_neg unknown)

variable {g : SegmentName} (hw : s.working = true) (known : (segOf g).die < s.geo.dies ∧ (segOf g).block < s.geo.blocks)
include hw known

theorem returnSegmentAct_known : returnSegmentAct g s =
    if (s.segment (segOf g)).state = .victim then
      ⟨.ok, [], s.setSegment (segOf g) { s.segment (segOf g) with state := .closed }⟩
    else s.refuse .state := (State.onSegment_eq g _ hw).trans (if_pos known)

theorem releaseSegmentAct_known : releaseSegmentAct g s =
    if (s.segment (segOf g)).state ≠ .victim then s.refuse .state
    else if (s.segment (segOf g)).valid ≠ 0 then ⟨.validRemaining, two (s.segment (segOf g)).valid, s⟩
    else ⟨.ok, releasePayload (s.segment (segOf g)),
      (s.setSegment (segOf g) .powerOn).emitToDie (segOf g).die (.segmentReleased (segOf g))⟩ :=
  (State.onSegment_eq g _ hw).trans (if_pos known)

theorem retireSegmentAct_known :
    let e := s.segment (segOf g)
    (e.state = .opened ∨ e.state = .filled ∨ e.state = .free → retireSegmentAct g s = s.refuse .state) ∧
    (e.state = .untracked ∨ e.state = .closed ∨ e.state = .victim → retireSegmentAct g s =
      ⟨.ok, one e.state.number ++ two e.valid, s.setSegment (segOf g) .retired⟩) ∧
    (e.state = .retired → retireSegmentAct g s = ⟨.ok, one e.state.number ++ two e.valid, s⟩) := by
  refine ⟨fun h => (State.onSegment_eq g _ hw).trans ((if_pos known).trans ?_),
    fun h => (State.onSegment_eq g _ hw).trans ((if_pos known).trans ?_),
    fun h => (State.onSegment_eq g _ hw).trans ((if_pos known).trans ?_)⟩
  · rcases h with h | h | h <;> simp only [h]
  · rcases h with h | h | h <;> simp only [h]
  · simp only [h]

end

theorem any_core_iff (c : Option Core) (p : Port) :
    c.any (fun c => p = c.port) = true ↔ ∃ k, c = some k ∧ p = k.port := by
  cases c <;> simp

/-- Settles O49. -/
theorem victimsAreReturnedReleasedOrRetired : Obligations.VictimsAreReturnedReleasedOrRetired := by
  unfold Obligations.VictimsAreReturnedReleasedOrRetired
  intro v g s hw x seg known
  refine ⟨fun i hi hr unknown => exec_refused hr (requestAct_unknownSegment (s := s.setLink _ _) hi hw unknown),
    fun hr hk => ?_, fun hr hk => ?_, fun hr hk => ?_⟩
  · have act := returnSegmentAct_known (s := s.setLink v.port .taken) hw hk
    refine ⟨fun victim => ⟨_, rfl, ?_, exec_quiet hr (act.trans (if_pos victim)) rfl rfl⟩,
      fun other => exec_refused hr (act.trans (if_neg other))⟩
    simp [State.candidate]
  · have act := releaseSegmentAct_known (s := s.setLink v.port .taken) hw hk
    refine ⟨fun other => exec_refused hr (act.trans (if_pos other)), fun victim valid =>
      exec_quiet hr (act.trans ((if_neg (not_not.mpr victim)).trans (if_pos (Nat.one_le_iff_ne_zero.mp valid)))) rfl rfl,
      fun victim empty room => ?_⟩
    have released := act.trans ((if_neg (not_not.mpr victim)).trans (if_neg (not_not.mpr empty)))
    have does := ((State.Does.refl (s.setLink v.port .taken)).map (State.setSegment · x .powerOn) (fun _ _ => rfl)
      fun _ => rfl).emitToDie x.die (.segmentReleased x)
    obtain ⟨t, run, answer, delivers, rest⟩ := exec_answers hr released does
    refine ⟨t, run, answer, rest, (delivers.congr fun p => ?_).tells_of_roomFor room fun p => ?_⟩
    · rw [List.nil_append]
      exact if_congr (any_core_iff ..) rfl rfl
    · split <;> simp
  · obtain ⟨refused, taken, kept⟩ := retireSegmentAct_known (s := s.setLink v.port .taken) hw hk
    exact ⟨fun h => exec_refused hr (refused h), fun h => exec_quiet hr (taken h) rfl rfl,
      fun h => exec_quiet hr (kept h) rfl rfl⟩

/-! ### RESTART (R183) -/

section
variable {s : State}

theorem Function.term_restart (fn : Function) : fn.restart.term = if fn.state = .disabled then 0 else fn.reserve := by
  cases h : fn.state <;> simp [Function.restart, Function.term, Function.spare, Function.powerOn, h]

/-- Ru after RESTART: the entries that RESTART takes out of the table are those with no term. -/
theorem restart_terms (t : Table Function) : ((Table.mapEntries .powerOn Function.restart t).map fun c => c.2.term).sum =
    ((t.filter fun c => c.2.state ≠ .disabled ∧ some c.1 ≠ none).map fun c => c.2.reserve).sum := by
  induction t with
  | nil => rfl
  | cons c t ih =>
    have step : ((Table.mapEntries .powerOn Function.restart (c :: t)).map fun c => c.2.term).sum =
        c.2.restart.term + ((Table.mapEntries .powerOn Function.restart t).map fun c => c.2.term).sum := by
      unfold Table.mapEntries
      by_cases gone : c.2.restart = .powerOn
      · simp [gone]; rfl
      · simp [gone]
    rw [step, ih, Function.term_restart]
    by_cases disabled : c.2.state = .disabled
    · simp [disabled]
    · simp [disabled]

theorem State.restart_function (h : Table.canonical .powerOn s.functions = true) (f : Nat) :
    s.restart.function f = (s.function f).restart := Table.read_mapEntries _ Function.restart (by decide) _ _ h

theorem State.restart_segment (h : Table.canonical .powerOn s.segments = true) (g : Seg) :
    s.restart.segment g = (s.segment g).restart := Table.read_mapEntries _ Segment.restart (by decide) _ _ h

theorem State.restart_die (h : Table.canonical .powerOn s.dies = true) (d : Nat) :
    s.restart.die d = (s.die d).restart := Table.read_mapEntries _ Die.restart (by decide) _ _ h

theorem State.restart_slot (h : Table.canonical .powerOn s.slots = true) (k : Nat) :
    s.restart.slot k = (s.slot k).restart := Table.read_mapEntries _ Slot.restart (by decide) _ _ h

theorem State.restart_port (s : State) (p : Port) : s.restart.port p = (s.port p).restart := by cases p <;> rfl

/-- After RESTART no event waits and no batch is queued. -/
theorem State.restart_notice (s : State) (p : Port) : s.restart.notice p = false := by cases p <;> rfl

theorem State.setLink_restart (s : State) (p : Port) (l : Link) : (s.setLink p l).restart = s.restart.setLink p l := by
  cases p <;> rfl

/-- What RESTART takes to its power-on value, and what it keeps as one. -/
theorem State.restart_rest (s : State) : s.restart = { State.reset with
    control := { s.control with device := .config }, functions := s.restart.functions
    budget := { total := 0, unused := s.reserves none, reclaimHeld := 0, reclaimWait := .none }
    segments := s.restart.segments, dies := s.restart.dies, slots := s.restart.slots, ports := s.restart.ports
    pending := s.pending } := by
  rw [State.reserves, ← restart_terms]; rfl

theorem restartAct_eq (hd : s.device = .config ∨ s.device = .run) : restartAct s = ⟨.ok, [], s.restart⟩ :=
  State.beforeDrain_pass _ hd

end

/-- A request whose owner leaves no notice condition true that was false. -/
theorem exec_calm {s u : State} {i : Instr} {code : Code} {payload : List Byte} (h : s.reaches i = true)
    (ha : requestAct i (s.setLink i.via.port .taken) = ⟨code, payload, u.setLink i.via.port .taken⟩)
    (quiet : ∀ p, s.notice p = true ∨ u.notice p = false) : exec i s = .next (u.answered i code payload) := by
  rw [exec_of_isRequest (State.reaches_isRequest h), requestStep_answered i _ s u code payload h ha quiet]

/-- Settles O53, by what RESTART does to each table. -/
theorem restartKeepsTheSettings : Obligations.RestartKeepsTheSettings := by
  unfold Obligations.RestartKeepsTheSettings
  intro v s hr
  refine ⟨fun hd => exec_refused hr ?_, fun hd canonical => ?_⟩
  · show restartAct (s.setLink v.port .taken) = _
    have device : (s.setLink v.port .taken).device = s.device := rfl
    rcases hd with hd | hd <;> rw [restartAct, State.beforeDrain, device, hd] <;> rfl
  · have act := (restartAct_eq (s := s.setLink v.port .taken) hd).trans
      (congrArg (Reply.mk .ok []) (State.setLink_restart s v.port .taken))
    have quiet (p : Port) : s.notice p = true ∨ s.restart.notice p = false := .inr (State.restart_notice s p)
    have run : exec (.restart v) s = .next (s.restart.answered (.restart v) .ok []) := exec_calm hr act quiet
    have port (p : Port) : (s.restart.answered (.restart v) .ok []).port p = if p = v.port then
        { (s.port p).restart with
          responses := (s.port p).responses ++ [responseFrame 0x1B v.crc Code.ok.byte []], link := .taken }
        else (s.port p).restart := by
      rw [State.answered_eq, State.setPort_port]
      by_cases hp : p = v.port
      · subst hp
        rw [if_pos rfl]
        refine (if_pos rfl).trans ?_
        have same : s.restart.port (Instr.restart v).via.port = (s.port v.port).restart := State.restart_port ..
        rw [same]
        rfl
      · exact (if_neg hp).trans ((State.restart_port s p).trans (if_neg hp).symm)
    obtain ⟨functions, -, -, -, segments, dies, slots⟩ := (State.canonical_iff s).mp canonical
    refine ⟨_, run, fun p => ?_, ?_, State.restart_function functions, fun g => State.restart_segment segments g,
      State.restart_die dies, fun k => (State.restart_slot slots k).trans ?_, fun p => ?_⟩
    · rw [port]
      by_cases hp : p = v.port
      · subst hp; simp [PortState.restart, Instr.via]; rfl
      · simp [hp, PortState.restart, Instr.via]
    · conv_lhs => rw [State.restart_rest s]
      rfl
    · cases hb : (s.slot k).batch <;> simp [Slot.restart, hb]
    · rw [port]
      split <;> exact ⟨rfl, rfl, rfl, rfl⟩

end Sys2Proof.Machine
end

section
/-! The settlement of O36 (R31 to R36 on RP), by what a record that joins a chain does to the stream's uncut sectors and
its seal. -/

namespace Sys2Proof.Machine

/-! ### A record joins a chain (R35 items 3 and 4, R66) -/

/-- The class of a record's origin counts one record more. -/
def State.counted (s : State) : Origin → State
  | .tenant _ _ => { s with tenantInUse := s.tenantInUse + 1 }
  | .reclaim => { s with reclaimInUse := s.reclaimInUse + 1 }

/-- Record r stands at the tail of stream i's chain, and the stream's seal is `sl`. -/
def State.chained (s : State) (i r : Nat) (rec : Fragment) (sl : Seal) : State :=
  ((s.counted rec.origin).setRecord r rec).setStream i
    { s.stream i with chain := (s.stream i).chain ++ [r], sealing := sl }

section
variable {s : State} {i r : Nat} {rec : Fragment} {sl : Seal}

@[simp] theorem State.counted_stream (o : Origin) (j : Nat) : (s.counted o).stream j = s.stream j := by cases o <;> rfl
@[simp] theorem State.counted_record (o : Origin) (j : Nat) : (s.counted o).record j = s.record j := by cases o <;> rfl
@[simp] theorem State.counted_function (o : Origin) (j : Nat) : (s.counted o).function j = s.function j := by cases o <;> rfl
@[simp] theorem State.counted_control (o : Origin) : (s.counted o).control = s.control := by cases o <;> rfl

@[simp] theorem State.chained_stream : (s.chained i r rec sl).stream i =
    { s.stream i with chain := (s.stream i).chain ++ [r], sealing := sl } := State.setStream_stream_same ..
theorem State.chained_record (j : Nat) : (s.chained i r rec sl).record j = if j = r then rec else s.record j := by
  rw [State.chained, State.setStream_record, State.setRecord_record, State.counted_record]
@[simp] theorem State.chained_function (j : Nat) : (s.chained i r rec sl).function j = s.function j := by
  rw [State.chained, State.setStream_function, State.setRecord_function, State.counted_function]
@[simp] theorem State.chained_control : (s.chained i r rec sl).control = s.control := State.counted_control _

theorem State.chainRecord_eq : s.chainRecord i r rec = s.chained i r rec (s.stream i).sealing := by
  unfold State.chainRecord State.chained State.counted
  cases rec.origin <;> rfl

theorem State.chained_setSeal (ho : (s.stream i).state ≠ .free) :
    (s.chained i r rec sl).setSeal i = s.chained i r rec ((s.chained i r rec sl).sealFor i) := by
  have kept : ({ s.stream i with chain := (s.stream i).chain ++ [r], sealing := sl } : Stream).state ≠ .free := ho
  rw [State.setSeal, State.chained_stream]
  conv_lhs => rw [State.chained]
  exact State.setStream_setStream _ i _ kept

/-- The records that were there keep their uncut sectors. -/
theorem State.chained_record_of_mem {x : Nat} (hr : r ∉ (s.stream i).chain) (hx : x ∈ (s.stream i).chain) :
    (s.chained i r rec sl).record x = s.record x := by
  rw [State.chained_record, if_neg]
  rintro rfl
  exact hr hx

theorem State.chained_uncut (hr : r ∉ (s.stream i).chain) :
    (s.chained i r rec sl).uncut i = s.uncut i + rec.uncut := by
  have kept : (s.stream i).chain.map (fun x => ((s.chained i r rec sl).record x).uncut) =
      (s.stream i).chain.map fun x => (s.record x).uncut :=
    List.map_congr_left fun x hx => by rw [State.chained_record_of_mem hr hx]
  have joined : (s.chained i r rec sl).record r = rec := (State.chained_record r).trans (if_pos rfl)
  simp only [State.uncut, State.chained_stream, List.map_append, List.sum_append, kept, List.map_cons, List.map_nil,
    List.sum_cons, List.sum_nil, joined]
  rfl

/-- With no uncut sector before, the record that joined is the oldest uncut one. -/
theorem State.chained_cutRecord (hr : r ∉ (s.stream i).chain) (h : s.uncut i = 0) (hn : rec.placed < rec.stop) :
    (s.chained i r rec sl).cutRecord i = some r := by
  have none_before := State.cutRecord_none h
  rw [State.cutRecord, List.find?_eq_none] at none_before
  rw [State.cutRecord, State.chained_stream, List.find?_append, List.find?_eq_none.mpr]
  · simp [State.chained_record, hn]
  · intro x hx
    rw [State.chained_record_of_mem hr hx]
    exact none_before x hx

end

/-! ### The seal of a stream with a sector just admitted (R65) -/

/-- The seal that a stream's timeout gives a sector admitted now. -/
def State.freshSeal (s : State) (i : Nat) : Seal :=
  if s.sealTimeout i = 0 then .disarmed else .armed (s.tick + BitVec.ofNat 32 (s.sealTimeout i))

theorem State.freshSeal_ne_pending (s : State) (i : Nat) : s.freshSeal i ≠ .pending := by
  unfold State.freshSeal; split <;> nofun

/-- A deadline at most 2,000 ticks ahead has not passed. -/
theorem passed_ahead (tick : Word) {n : Nat} (hpos : n ≠ 0) (hn : n ≤ 2000) :
    passed tick (tick + BitVec.ofNat 32 n) = false := by
  have ahead : (tick - (tick + BitVec.ofNat 32 n)).toNat = 2 ^ 32 - n := by
    rw [BitVec.toNat_sub, BitVec.toNat_add, BitVec.toNat_ofNat, Nat.mod_eq_of_lt (show n < 2 ^ 32 by omega)]
    have := tick.isLt
    omega
  rw [passed, ahead, decide_eq_false]
  omega

theorem State.sealFor_fresh {s : State} {i r : Nat} (hc : s.cutRecord i = some r) (ha : (s.record r).admitted = s.tick)
    (hs : s.standing i r = false) (ht : s.sealTimeout i ≤ 2000) : s.sealFor i = s.freshSeal i := by
  rw [State.sealFor, hc, State.freshSeal]
  simp only [hs, Bool.false_eq_true, if_false, ha]
  split
  · rfl
  · rename_i timeout
    rw [passed_ahead _ timeout ht]; rfl

/-- No cause of a PENDING seal stands (R69). -/
def State.calm (s : State) (i : Nat) : Prop :=
  (s.stream i).state ≠ .draining ∧ s.device ≠ .drain ∧
    ((s.stream i).cls = .tenant → (s.function (s.stream i).owner).state ≠ .fenced ∧
      (s.function (s.stream i).owner).flush = .none)

theorem State.calm.standing {s : State} {i : Nat} (h : s.calm i) (r : Nat) : s.standing i r = false := by
  obtain ⟨open_, run, tenant⟩ := h
  cases hc : (s.stream i).cls with
  | reclaim => simp [State.standing, open_, run, hc]
  | tenant =>
    obtain ⟨not_fenced, no_flush⟩ := tenant hc
    simp [State.standing, open_, run, not_fenced, no_flush, flushCause]

section
variable {s : State} {i r : Nat} {rec : Fragment} {sl : Seal}

theorem State.chained_calm (h : s.calm i) : (s.chained i r rec sl).calm i := by
  simpa [State.calm, State.device] using h

theorem State.chained_sealTimeout : (s.chained i r rec sl).sealTimeout i = s.sealTimeout i := by
  simp only [State.sealTimeout, State.chained_stream, State.chained_function, State.limits, State.chained_control]

/-- A record that joins the chain of a stream with no uncut sector arms the seal; on any other stream the seal stays. -/
theorem State.joinChain_eq (ho : (s.stream i).state ≠ .free) (hr : r ∉ (s.stream i).chain) (hc : s.calm i)
    (hn : rec.placed < rec.stop) (ha : rec.admitted = s.tick) (ht : s.sealTimeout i ≤ 2000) :
    s.joinChain i r rec =
      (s.chained i r rec (if s.uncut i = 0 then s.freshSeal i else (s.stream i).sealing)).test i := by
  unfold State.joinChain
  rw [State.chainRecord_eq]
  dsimp only
  by_cases h : s.uncut i = 0
  · have tick : (s.chained i r rec (s.stream i).sealing).tick = s.tick := by rw [State.tick, State.chained_control]
    have fresh : (s.chained i r rec (s.stream i).sealing).sealFor i = s.freshSeal i := by
      rw [State.sealFor_fresh (State.chained_cutRecord hr h hn) (by rw [State.chained_record, if_pos rfl, ha, tick])
        ((State.chained_calm hc).standing r) (State.chained_sealTimeout.trans_le ht), State.freshSeal, State.freshSeal,
        State.chained_sealTimeout, tick]
    rw [if_pos h, if_pos h, State.chained_setSeal ho, fresh]
  · rw [if_neg h, if_neg h]

/-- A record that makes no cut due: nothing else follows. -/
theorem State.joinChain_quiet (ho : (s.stream i).state ≠ .free) (hr : r ∉ (s.stream i).chain) (hc : s.calm i)
    (hn : rec.placed < rec.stop) (ha : rec.admitted = s.tick) (ht : s.sealTimeout i ≤ 2000)
    (hu : s.uncut i + rec.uncut < s.geo.sectors) (hs : 1 ≤ s.uncut i → (s.stream i).sealing ≠ .pending) :
    s.joinChain i r rec = s.chained i r rec (if s.uncut i = 0 then s.freshSeal i else (s.stream i).sealing) := by
  rw [State.joinChain_eq ho hr hc hn ha ht]
  refine State.test_idle ?_
  have not_pending : (if s.uncut i = 0 then s.freshSeal i else (s.stream i).sealing) ≠ .pending := by
    split
    · exact State.freshSeal_ne_pending s i
    · rename_i some_uncut; exact hs (Nat.one_le_iff_ne_zero.mpr some_uncut)
  have geo : (s.chained i r rec (if s.uncut i = 0 then s.freshSeal i else (s.stream i).sealing)).geo = s.geo := by
    rw [State.geo, State.chained_control]; rfl
  simp only [State.cutDue, State.chained_stream, State.chained_uncut hr, geo, not_pending, not_le.mpr hu, decide_false,
    Bool.or_self, Bool.and_false, Bool.false_and]

end

/-! ### The account of the reclaim port (R33, R36) -/

section
variable {s : State} {i r : Nat} {w : Write}

theorem State.submitReclaim_open (ho : (s.stream i).state ≠ .free) (hc : (s.stream i).cls = .reclaim) :
    s.submitReclaim i w = match (s.stream i).intakeRefusal with
      | some c => s.refuse c
      | none => s.submitReclaimTo i w := by
  rw [State.submitReclaim, if_neg (by simp [ho, hc])] <;> rfl

theorem State.submitReclaimTo_noRecord (h : s.recordFor .reclaim = none) :
    s.submitReclaimTo i w = ⟨.holdRecords, [], s.setReclaimWait (.records w.n)⟩ := by rw [State.submitReclaimTo, h]

theorem State.submitReclaimTo_noBudget (h : s.recordFor .reclaim = some r) (hb : s.limits.reclaimHeld < s.budget.reclaimHeld + w.n) :
    s.submitReclaimTo i w = ⟨.holdBudget, [], s.setReclaimWait (.budget w.n)⟩ := by
  have failed : s.reclaimTest w.n = false := decide_eq_false (not_le.mpr hb)
  simp only [State.submitReclaimTo, h, failed, Bool.false_eq_true, if_false]

theorem State.submitReclaimTo_admits (h : s.recordFor .reclaim = some r) (hb : s.budget.reclaimHeld + w.n ≤ s.limits.reclaimHeld) :
    s.submitReclaimTo i w = ⟨.admitted, admittedPayload i 0, s.admitReclaim i r w⟩ := by
  have passed : s.reclaimTest w.n = true := decide_eq_true hb
  simp only [State.submitReclaimTo, h, passed, if_true]

/-- A RECLAIM write that makes no cut due (R36). -/
theorem State.admitReclaim_quiet (ho : (s.stream i).state ≠ .free) (hd : (s.stream i).state ≠ .draining)
    (hc : (s.stream i).cls = .reclaim) (hdev : s.device = .run) (hr : r ∉ (s.stream i).chain) (hw : 1 ≤ w.n)
    (ht : s.limits.reclaimTimeout ≤ 2000) (hu : s.uncut i + w.n < s.geo.sectors)
    (hs : 1 ≤ s.uncut i → (s.stream i).sealing ≠ .pending) : s.admitReclaim i r w =
      (s.setBudget { s.budget with reclaimHeld := s.budget.reclaimHeld + w.n }).chained i r (w.record i .reclaim s.tick)
        (if s.uncut i = 0 then (if s.limits.reclaimTimeout = 0 then .disarmed
          else .armed (s.tick + BitVec.ofNat 32 s.limits.reclaimTimeout)) else (s.stream i).sealing) := by
  let s' := s.setBudget { s.budget with reclaimHeld := s.budget.reclaimHeld + w.n }
  have timeout : s'.sealTimeout i = s.limits.reclaimTimeout := by
    have cls : (s'.stream i).cls = .reclaim := hc
    rw [State.sealTimeout, cls]; rfl
  have fresh : s'.freshSeal i = if s.limits.reclaimTimeout = 0 then .disarmed
      else .armed (s.tick + BitVec.ofNat 32 s.limits.reclaimTimeout) := by rw [State.freshSeal, timeout]; rfl
  have calm : s'.calm i := by
    refine ⟨hd, ?_, fun h => ?_⟩
    · show s.device ≠ .drain
      rw [hdev]; decide
    · have h' : (s.stream i).cls = .tenant := h
      rw [hc] at h'; cases h'
  rw [← fresh]
  exact State.joinChain_quiet (s := s') ho hr calm hw rfl (timeout.trans_le ht) hu hs

end

/-- Settles O36. -/
theorem submitOnTheReclaimPort : Obligations.SubmitOnTheReclaimPort := by
  unfold Obligations.SubmitOnTheReclaimPort
  intro v fn hint stream tag lba region offset n s r hr hd inRange hp
  dsimp only
  intro hc
  have act := (submitAct_inRange (s := s.setLink v.port .taken) (fn := fn) (tag := tag) hd inRange).trans (if_pos hp)
  have opened (ho : (s.stream stream.toNat).state ≠ .free) := act.trans (State.submitReclaim_open ho hc)
  have refused {c : Code} (ho : (s.stream stream.toNat).state ≠ .free)
      (h : (s.stream stream.toNat).intakeRefusal = some c) :
      exec (.submit v fn hint stream tag lba region offset n) s =
        .next (s.answered (.submit v fn hint stream tag lba region offset n) c []) := by
    refine exec_refused hr ((opened ho).trans ?_)
    rw [State.setLink_stream, h]; rfl
  refine ⟨fun h => refused (by rw [h]; decide) (Stream.intakeRefusal_halted h),
    fun h => refused (by rw [h]; decide) (Stream.intakeRefusal_draining h), fun h => ?_⟩
  have not_free : (s.stream stream.toNat).state ≠ .free := by rcases h with h | h | h <;> rw [h] <;> decide
  have not_draining : (s.stream stream.toNat).state ≠ .draining := by rcases h with h | h | h <;> rw [h] <;> decide
  refine ⟨fun hold => refused not_free ((Stream.intakeRefusal_open h).trans (if_pos hold)), fun accept full => ?_,
    fun accept room hr' hfree hlow hnew => ?_⟩
  · have accepted : ((s.setLink v.port .taken).stream stream.toNat).intakeRefusal = none :=
      (Stream.intakeRefusal_open h).trans (if_neg (by simp [accept]))
    have held := opened not_free
    rw [accepted] at held
    exact exec_quiet hr (held.trans (State.submitReclaimTo_noRecord (State.recordFor_reclaim_full full))) rfl rfl
  · have accepted : ((s.setLink v.port .taken).stream stream.toNat).intakeRefusal = none :=
      (Stream.intakeRefusal_open h).trans (if_neg (by simp [accept]))
    have taken := opened not_free
    rw [accepted] at taken
    have record : (s.setLink v.port .taken).recordFor .reclaim = some r :=
      (State.recordFor_reclaim_room room).trans (State.freeRecordNumber_some hr' hfree hlow)
    refine ⟨fun short => exec_quiet hr (taken.trans (State.submitReclaimTo_noBudget record short)) rfl rfl,
      fun fits ht hu hs => exec_quiet hr (taken.trans ((State.submitReclaimTo_admits (w := ⟨tag, lba, region, offset, n.toNat⟩) record fits).trans ?_)) rfl rfl⟩
    have sectors : 1 ≤ n.toNat := by
      have in_range := mt submitOutOfRange_iff.mpr (Bool.eq_false_iff.mp inRange)
      omega
    rw [State.admitReclaim_quiet (s := s.setLink v.port .taken) (w := ⟨tag, lba, region, offset, n.toNat⟩) not_free
      not_draining hc hd hnew sectors ht hu hs]
    rfl

end Sys2Proof.Machine
end

section
/-! One cut, said once (R57 to R62, R66, R87, R96): the batch a cut forms, what it leaves of the uncut sectors, and the
test of a stream that makes exactly one; then the marking of seals (R68). -/

namespace Sys2Proof.Machine

/-! ### What a cut takes from the chain (R60) -/

section
variable {s : State}

theorem Fragment.uncut_eq_zero (f : Fragment) : f.uncut = 0 ↔ ¬ f.placed < f.stop := by
  rw [Fragment.uncut, Nat.sub_eq_zero_iff_le, not_lt]

/-- What is uncut of the records of a list, each with its number of sectors. -/
def State.rests (s : State) (rs : List Nat) : List (Nat × Nat) :=
  (rs.filter fun r => (s.record r).placed < (s.record r).stop).map fun r => (r, (s.record r).stop - (s.record r).placed)

theorem State.rests_cons (r : Nat) (rs : List Nat) : s.rests (r :: rs) =
    if (s.record r).uncut = 0 then s.rests rs else (r, (s.record r).uncut) :: s.rests rs := by
  by_cases h : (s.record r).placed < (s.record r).stop
  · have some_uncut : (s.record r).uncut ≠ 0 := fun zero => (Fragment.uncut_eq_zero _).mp zero h
    rw [if_neg some_uncut]
    simp [State.rests, h, Fragment.uncut]
  · have none_uncut := (Fragment.uncut_eq_zero _).mpr h
    rw [if_pos none_uncut]
    simp [State.rests, h]

theorem State.rests_sum (rs : List Nat) : ((s.rests rs).map Prod.snd).sum = (rs.map fun r => (s.record r).uncut).sum := by
  induction rs with
  | nil => rfl
  | cons r rs ih =>
    rw [State.rests_cons, List.map_cons, List.sum_cons]
    split
    · rename_i zero; rw [ih, zero, Nat.zero_add]
    · rw [List.map_cons, List.sum_cons, ih]

/-- A cut that needs no fewer sectors than are uncut takes them all, and goes on behind them. -/
theorem State.takeFrom_append (front behind : List Nat) (need : Nat)
    (h : (front.map fun r => (s.record r).uncut).sum ≤ need) : s.takeFrom (front ++ behind) need =
      s.rests front ++ s.takeFrom behind (need - (front.map fun r => (s.record r).uncut).sum) := by
  induction front generalizing need with
  | nil => rfl
  | cons r rs ih =>
    rw [List.map_cons, List.sum_cons] at h ⊢
    have whole : min (s.record r).uncut need = (s.record r).uncut := by omega
    rw [List.cons_append, State.takeFrom, whole, State.rests_cons]
    by_cases zero : (s.record r).uncut = 0
    · simp only [zero, if_true, Nat.zero_add]
      exact ih need (by omega)
    · simp only [zero, if_false, List.cons_append]
      rw [ih (need - (s.record r).uncut) (by omega), Nat.sub_sub]

theorem State.takeFrom_all (rs : List Nat) (need : Nat) (h : (rs.map fun r => (s.record r).uncut).sum ≤ need) :
    s.takeFrom rs need = s.rests rs := by
  have all := State.takeFrom_append rs [] need h
  simpa [State.takeFrom] using all

/-- What the parts take of record r. -/
def takenOf (parts : List (Nat × Nat)) (r : Nat) : Nat := ((parts.filter fun x => x.1 = r).map Prod.snd).sum

theorem takenOf_cons (x : Nat × Nat) (parts : List (Nat × Nat)) (r : Nat) :
    takenOf (x :: parts) r = (if x.1 = r then x.2 else 0) + takenOf parts r := by
  by_cases h : x.1 = r <;> simp [takenOf, h]

theorem takenOf_append (a b : List (Nat × Nat)) (r : Nat) : takenOf (a ++ b) r = takenOf a r + takenOf b r := by
  simp [takenOf]

theorem State.takenOf_rests (rs : List Nat) (hn : rs.Nodup) (r : Nat) :
    takenOf (s.rests rs) r = if r ∈ rs then (s.record r).uncut else 0 := by
  induction rs with
  | nil => rfl
  | cons x rs ih =>
    obtain ⟨fresh, distinct⟩ := List.nodup_cons.mp hn
    rw [State.rests_cons]
    by_cases hx : r = x
    · subst hx
      have none_behind : takenOf (s.rests rs) r = 0 := (ih distinct).trans (if_neg fresh)
      rw [if_pos List.mem_cons_self]
      split
      · rename_i zero; rw [none_behind, zero]
      · rw [takenOf_cons, none_behind]; simp
    · have behind : (r ∈ x :: rs) = (r ∈ rs) := by simp [hx]
      simp only [behind]
      split
      · exact ih distinct
      · rw [takenOf_cons, ih distinct, if_neg (Ne.symm hx), Nat.zero_add]

theorem State.foldl_place (parts : List (Nat × Nat)) (s : State) :
    parts.foldl State.place s = { s with records := (parts.foldl State.place s).records } ∧
      ∀ r, (parts.foldl State.place s).record r =
        { s.record r with placed := (s.record r).placed + takenOf parts r } := by
  induction parts generalizing s with
  | nil => exact ⟨rfl, fun r => rfl⟩
  | cons x parts ih =>
    obtain ⟨rest, records⟩ := ih (s.place x)
    refine ⟨rest, fun r => (records r).trans ?_⟩
    rw [takenOf_cons, State.place, State.setRecord_record]
    by_cases h : r = x.1
    · subst h; simp [Nat.add_assoc]
    · simp [h, Ne.symm h]

end

/-! ### The write point of a stream -/

/-- The segment, the stream and the die of a write point are written. -/
def State.setPoint (s : State) (i : Nat) (g : Seg) (e : Segment) (st : Stream) (die : Die) : State :=
  ((s.setSegment g e).setStream i st).setDie g.die die

theorem State.setSegment_setSegment (s : State) (g : Seg) {e : Segment} (e' : Segment) (h : e.state ≠ .untracked) :
    (s.setSegment g e).setSegment g e' = s.setSegment g e' := by
  have listed : e ≠ .powerOn := fun same => h (congrArg Segment.state same)
  simp only [State.setSegment, State.segIndex, State.geo, Table.write_write _ _ _ _ _ listed]

section
variable (s : State) (i : Nat) (g : Seg) {e : Segment} {st : Stream} {die : Die}

theorem State.setPoint_setPoint (e' : Segment) (st' : Stream) (die' : Die) (he : e.state ≠ .untracked)
    (hs : st.state ≠ .free) (hd : die ≠ .powerOn) :
    (s.setPoint i g e st die).setPoint i g e' st' die' = s.setPoint i g e' st' die' := by
  calc (s.setPoint i g e st die).setPoint i g e' st' die'
      = (((((s.setSegment g e).setSegment g e').setStream i st).setStream i st').setDie g.die die).setDie g.die die' := rfl
    _ = s.setPoint i g e' st' die' := by
      rw [State.setSegment_setSegment s g e' he, State.setStream_setStream _ i st' hs, State.setDie_setDie _ _ die' hd]
      rfl

theorem State.setPoint_setStream (st' : Stream) (hs : st.state ≠ .free) :
    (s.setPoint i g e st die).setStream i st' = s.setPoint i g e st' die := by
  calc (s.setPoint i g e st die).setStream i st'
      = (((s.setSegment g e).setStream i st).setStream i st').setDie g.die die := rfl
    _ = s.setPoint i g e st' die := by rw [State.setStream_setStream _ i st' hs]; rfl

@[simp] theorem State.setPoint_stream : (s.setPoint i g e st die).stream i = st := State.setStream_stream_same ..
@[simp] theorem State.setPoint_segment : (s.setPoint i g e st die).segment g = e := State.setSegment_segment_same ..
@[simp] theorem State.setPoint_die : (s.setPoint i g e st die).die g.die = die := State.setDie_die_same ..

end

/-! ### The batch of a cut (R60 to R62) -/

/-- The segment, stream and die after a cut: the next unit, the counts, and, behind the last unit, the filled segment. -/
def Segment.withUnit (e : Segment) (units : Nat) : Segment :=
  { e with nextUnit := e.nextUnit + 1, state := if decide (units ≤ e.nextUnit + 1) then .filled else e.state }

def Stream.withBatch (st : Stream) (g : Seg) (last : Bool) (pad : Nat) (sealing : Seal) : Stream :=
  { st with inFlight := st.inFlight + 1, padTotal := min (st.padTotal + pad) (2 ^ 32 - 1), sealing := sealing
            writePoint := if last then none else st.writePoint, finishing := if last then some g else st.finishing
            state := if last && st.state = .active then .idle else st.state }

def Die.withBatch (die : Die) (last : Bool) : Die :=
  { die with inFlight := die.inFlight + 1, openPoints := if last then die.openPoints - 1 else die.openPoints }

theorem StreamState.losePoint_eq (st : StreamState) : st.losePoint = if st = .active then .idle else st := by
  cases st <;> rfl

section
variable {s : State} {i k : Nat} {g : Seg}

/-- R62 step 5, on a write point just written. -/
theorem State.fillPoint_setPoint {e : Segment} {st : Stream} {die : Die} (he : e.state ≠ .untracked) (hs : st.state ≠ .free)
    (hd : die ≠ .powerOn) : (s.setPoint i g e st die).fillPoint i g =
      if s.geo.units ≤ e.nextUnit then
        s.setPoint i g { e with state := .filled }
          { st with writePoint := none, finishing := some g, state := st.state.losePoint }
          { die with openPoints := die.openPoints - 1 }
      else s.setPoint i g e st die := by
  have filled (x : State) : x.fillPoint i g = if x.geo.units ≤ (x.segment g).nextUnit then
      x.setPoint i g { x.segment g with state := .filled }
        { x.stream i with writePoint := none, finishing := some g, state := (x.stream i).state.losePoint }
        { x.die g.die with openPoints := (x.die g.die).openPoints - 1 } else x := rfl
  rw [filled, State.setPoint_segment, State.setPoint_stream, State.setPoint_die, State.setPoint_setPoint s i g _ _ _ he hs hd]
  rfl

/-- R62 steps 1, 2, 4 and 5: the write point after a cut. -/
theorem State.fillPoint_countBatch (pad : Nat) (hf : (s.stream i).state ≠ .free) (he : (s.segment g).state = .opened) :
    (s.countBatch i g pad).fillPoint i g = s.setPoint i g ((s.segment g).withUnit s.geo.units)
      ((s.stream i).withBatch g (decide (s.geo.units ≤ (s.segment g).nextUnit + 1)) pad (s.stream i).sealing)
      ((s.die g.die).withBatch (decide (s.geo.units ≤ (s.segment g).nextUnit + 1))) := by
  have counted : s.countBatch i g pad = s.setPoint i g { s.segment g with nextUnit := (s.segment g).nextUnit + 1 }
      { s.stream i with inFlight := (s.stream i).inFlight + 1
                        padTotal := min ((s.stream i).padTotal + pad) (2 ^ 32 - 1) }
      { s.die g.die with inFlight := (s.die g.die).inFlight + 1 } := rfl
  rw [counted, State.fillPoint_setPoint]
  case he => rw [he]; decide
  case hs => exact hf
  case hd => exact fun same => Nat.succ_ne_zero _ (congrArg Die.inFlight same)
  by_cases last : s.geo.units ≤ (s.segment g).nextUnit + 1
  · simp only [last, if_true, Segment.withUnit, Stream.withBatch, Die.withBatch, decide_true, Bool.true_and,
      StreamState.losePoint_eq, decide_eq_true_eq]
  · simp only [last, if_false, Segment.withUnit, Stream.withBatch, Die.withBatch, decide_false, Bool.false_and,
      Bool.false_eq_true]

/-- A seal setting does not depend on the seal it replaces. -/
theorem State.setStream_sealFor (sealing : Seal) :
    (s.setStream i { s.stream i with sealing := sealing }).sealFor i = s.sealFor i := by
  have cut : (s.setStream i { s.stream i with sealing := sealing }).cutRecord i = s.cutRecord i := by
    simp only [State.cutRecord, State.setStream_stream_same, State.setStream_record]
    rfl
  have standing (r : Nat) : (s.setStream i { s.stream i with sealing := sealing }).standing i r = s.standing i r := by
    simp only [State.standing, State.setStream_stream_same, State.setStream_record, State.setStream_function,
      State.setStream_device]
    rfl
  have timeout : (s.setStream i { s.stream i with sealing := sealing }).sealTimeout i = s.sealTimeout i := by
    simp only [State.sealTimeout, State.setStream_stream_same, State.setStream_function, State.setStream_limits]
  simp only [State.sealFor, cut, standing, timeout, State.setStream_record, State.setStream_tick]

theorem State.setSeal_sealFor : (s.setSeal i).sealFor i = s.sealFor i := State.setStream_sealFor _

theorem State.freeSlotNumber_some (h : s.pointReady i g k) : s.freeSlotNumber = some k := by
  obtain ⟨-, -, -, -, -, -, -, -, bound, free, low⟩ := h
  exact lowestFrom_eq _ _ _ _ (by simp [free]) (Nat.zero_le _) (by simpa [Config.slots] using bound)
    fun j _ hj => by simpa [Option.isSome_iff_ne_none] using low j hj

/-- The cut of a stream at a ready write point, with what it takes from the chain. -/
theorem State.cut_cuts {parts : List (Nat × Nat)} (h : s.pointReady i g k)
    (hp : s.takeFrom (s.stream i).chain (min s.geo.sectors (s.uncut i)) = parts)
    (hsum : (parts.map Prod.snd).sum = min s.geo.sectors (s.uncut i)) :
    s.cuts (s.cut i g) i g k parts ((s.cut i g).sealFor i) ∧ (s.cut i g).ports = s.ports := by
  obtain ⟨not_free, -, -, -, -, -, opened, -⟩ := id h
  obtain ⟨placed_rest, placed_record⟩ := State.foldl_place parts s
  have cut : s.cut i g = s.cutInto i g k := by rw [State.cut, State.freeSlotNumber_some h]
  let p := parts.foldl State.place s
  let x := (p.setSlot k { s.slot k with batch := some (s.batchOf i g) }).enqueue (s.placeOf g.die) k
  have real : (s.batchOf i g).real = (parts.map Prod.snd).sum := hsum.symm
  have pad : (s.batchOf i g).pad = s.geo.sectors - (parts.map Prod.snd).sum := by rw [← real]; rfl
  have rest : p = { s with records := p.records } := placed_rest
  have formed : s.cutInto i g k = ((x.countBatch i g (s.batchOf i g).pad).fillPoint i g).setSeal i := by
    have taken : s.takeFrom (s.stream i).chain (s.batchOf i g).real = parts := hp
    have slot : p.slot k = s.slot k := by rw [rest]; rfl
    simp only [State.cutInto, taken]
    rw [show (parts.foldl State.place s).slot k = s.slot k from slot]
    rfl
  have stream : x.stream i = s.stream i := by show p.stream i = _; rw [rest]; rfl
  have segment : x.segment g = s.segment g := by show p.segment g = _; rw [rest]; rfl
  have die : x.die g.die = s.die g.die := by show p.die g.die = _; rw [rest]; rfl
  have geo : x.geo = s.geo := by show p.geo = _; rw [rest]; rfl
  have filled := State.fillPoint_countBatch (s := x) (i := i) (g := g) (s.batchOf i g).pad (by rw [stream]; exact not_free)
    (by rw [segment]; exact opened)
  rw [stream, segment, die, geo] at filled
  have batched : ((s.stream i).withBatch g (decide (s.geo.units ≤ (s.segment g).nextUnit + 1)) (s.batchOf i g).pad
      (s.stream i).sealing).state ≠ .free := by
    simp only [Stream.withBatch]; split
    · decide
    · exact not_free
  have point : s.cut i g = x.setPoint i g ((s.segment g).withUnit s.geo.units)
      ((s.stream i).withBatch g (decide (s.geo.units ≤ (s.segment g).nextUnit + 1)) (s.batchOf i g).pad
        ((s.cut i g).sealFor i))
      ((s.die g.die).withBatch (decide (s.geo.units ≤ (s.segment g).nextUnit + 1))) := by
    have sealing : (s.cut i g).sealFor i = ((x.countBatch i g (s.batchOf i g).pad).fillPoint i g).sealFor i := by
      rw [cut, formed, State.setSeal_sealFor]
    rw [sealing]
    conv_lhs => rw [cut, formed, State.setSeal, filled, State.setPoint_stream, State.setPoint_setStream _ _ _ _ batched]
    rw [filled]
    rfl
  have ports : (s.cut i g).ports = s.ports := by
    rw [point]; show p.ports = _; rw [rest]
  refine ⟨⟨?_, fun r => ?_⟩, ports⟩
  · have outer : x = { (s.setSlot k { s.slot k with batch := some (s.batchOf i g) }).enqueue (s.placeOf g.die) k with
        records := p.records } := by
      show ((p.setSlot k _).enqueue _ k) = _
      conv_lhs => rw [rest]
      rfl
    have records : (s.cut i g).records = p.records := by rw [point]; rfl
    have batch : s.batchOf i g = { phase := .queued, place := s.placeOf g.die, stream := i, cls := (s.stream i).cls, seg := g
                                   unit := (s.segment g).nextUnit, real := (parts.map Prod.snd).sum
                                   pad := s.geo.sectors - (parts.map Prod.snd).sum
                                   extents := parts.map fun x => s.extentOf x.1 x.2, overdue := false } := by
      have taken : s.takeFrom (s.stream i).chain (s.batchOf i g).real = parts := hp
      rw [← pad, ← real]
      have extents : (s.batchOf i g).extents = parts.map fun x => s.extentOf x.1 x.2 := by
        show ((s.takeFrom (s.stream i).chain (s.batchOf i g).real).map _) = _
        rw [taken]
        rfl
      rw [← extents]
      rfl
    rw [records, ports]
    conv_lhs => rw [point, outer, pad, batch]
    rfl
  · have record : (s.cut i g).record r = p.record r := by rw [point]; rfl
    rw [record]
    exact placed_record r

end

end Sys2Proof.Machine
end

section
/-! The test of a stream that makes one cut, and the marking of seals (R57, R68); then the settlement of O56 (R67). -/

namespace Sys2Proof.Machine

/-! ### What a cut leaves uncut -/

namespace State.cuts
variable {s t u : State} {i k : Nat} {g : Seg} {parts : List (Nat × Nat)} {sealing : Seal}

theorem stream_of_ne (h : s.cuts t i g k parts sealing) {n : Nat} (hn : n ≠ i) : t.stream n = s.stream n := by
  rw [h.1]
  exact (State.setStream_stream ..).trans (if_neg hn)

theorem stream_self (h : s.cuts t i g k parts sealing) : t.stream i =
    (s.stream i).withBatch g (decide (s.geo.units ≤ (s.segment g).nextUnit + 1))
      (s.geo.sectors - (parts.map Prod.snd).sum) sealing := by
  rw [h.1]
  exact State.setStream_stream_same ..

theorem chain (h : s.cuts t i g k parts sealing) (n : Nat) : (t.stream n).chain = (s.stream n).chain := by
  by_cases hn : n = i
  · subst hn; rw [h.stream_self]; rfl
  · rw [h.stream_of_ne hn]

theorem record (h : s.cuts t i g k parts sealing) (r : Nat) :
    t.record r = { s.record r with placed := (s.record r).placed + takenOf parts r } := h.2 r

theorem record_uncut (h : s.cuts t i g k parts sealing) (r : Nat) :
    (t.record r).uncut = (s.record r).uncut - takenOf parts r := by
  rw [h.record]
  exact (Nat.sub_sub ..).symm

theorem uncut (h : s.cuts t i g k parts sealing) (n : Nat) :
    t.uncut n = ((s.stream n).chain.map fun r => (s.record r).uncut - takenOf parts r).sum := by
  simp only [State.uncut, h.chain, h.record_uncut]

theorem uncut_le (h : s.cuts t i g k parts sealing) (n : Nat) : t.uncut n ≤ s.uncut n := by
  rw [h.uncut]
  exact List.sum_le_sum fun r _ => Nat.sub_le ..

/-- A cut of all that is uncut leaves nothing. -/
theorem uncut_rest (h : s.cuts t i g k (s.restParts i) sealing) (distinct : (s.stream i).chain.Nodup) : t.uncut i = 0 := by
  rw [h.uncut, List.sum_eq_zero]
  simp only [List.mem_map]
  rintro x ⟨r, hr, rfl⟩
  have taken : takenOf (s.restParts i) r = (s.record r).uncut := (State.takenOf_rests _ distinct r).trans (if_pos hr)
  rw [taken, Nat.sub_self]

/-- What is left to the ports is not the cut's to say. -/
theorem withPorts (h : s.cuts t i g k parts sealing) (ps : Ports) : s.cuts (t.withPorts ps) i g k parts sealing :=
  ⟨congrArg (State.withPorts · ps) h.1, h.2⟩

theorem of_withPorts {ps : Ports} (h : (s.withPorts ps).cuts t i g k parts sealing) : s.cuts t i g k parts sealing := h

/-- The seal that a cut replaces does not matter. -/
theorem of_sealed {before : Seal} (hs : (s.stream i).state ≠ .free)
    (h : (s.setStream i { s.stream i with sealing := before }).cuts t i g k parts sealing) :
    s.cuts t i g k parts sealing := by
  have rest := h.1
  have sealed : ({ s.stream i with sealing := before } : Stream).state ≠ .free := hs
  simp only [State.setStream_stream_same] at rest
  refine ⟨rest.trans ?_, h.2⟩
  show { (((((s.setSlot k _).enqueue _ k).setSegment g _).setStream i { s.stream i with sealing := before }).setStream i
    _).setDie g.die _ with records := t.records, ports := t.ports } = _
  rw [State.setStream_setStream _ i _ sealed]
  rfl

end State.cuts

/-! ### One cut -/

section
variable {s : State} {i k : Nat} {g : Seg}

theorem State.takeFrom_rest (few : s.uncut i ≤ s.geo.sectors) :
    s.takeFrom (s.stream i).chain (min s.geo.sectors (s.uncut i)) = s.restParts i := by
  rw [Nat.min_eq_right few]
  exact State.takeFrom_all _ _ le_rfl

theorem State.restParts_sum (few : s.uncut i ≤ s.geo.sectors) :
    ((s.restParts i).map Prod.snd).sum = min s.geo.sectors (s.uncut i) := by
  rw [Nat.min_eq_right few]
  exact State.rests_sum _

/-- A test whose first pass cuts and whose second pass finds nothing due. -/
theorem State.test_once (h : s.pointReady i g k) (due : s.cutDue i = true) (ended : (s.cut i g).cutDue i = false) :
    s.test i = s.cut i g := by
  obtain ⟨-, -, -, -, point, room, -⟩ := h
  have pass : s.testPass i = (s.cut i g, true) := by
    simp only [State.testPass, point, room, if_true]
  simp [State.test, State.testFor, due, pass, ended]

/-- A stream with at most a unit uncut, at a ready write point, cuts its remainder: it holds a unit, or its seal is PENDING. -/
theorem State.test_rest (h : s.pointReady i g k) (some_uncut : 1 ≤ s.uncut i) (few : s.uncut i ≤ s.geo.sectors)
    (due : s.geo.sectors ≤ s.uncut i ∨ (s.stream i).sealing = .pending) :
    s.cuts (s.test i) i g k (s.restParts i) .disarmed ∧ (s.test i).ports = s.ports := by
  obtain ⟨not_free, not_halted, distinct, below, -⟩ := id h
  obtain ⟨cuts, ports⟩ := State.cut_cuts h (State.takeFrom_rest few) (State.restParts_sum few)
  have nothing_left := cuts.uncut_rest distinct
  rw [State.sealFor_none nothing_left] at cuts
  have first : s.cutDue i = true := by
    rcases due with unit | pending
    · simp [State.cutDue, not_free, not_halted, some_uncut, unit, below]
    · simp [State.cutDue, not_free, not_halted, some_uncut, pending, below]
  rw [State.test_once h first (State.cutDue_none nothing_left)]
  exact ⟨cuts, ports⟩

/-- A stream that can make no cut and ask for nothing is left as it is by its test. -/
theorem State.test_blocked (h : s.blocked i) : s.test i = s := by
  have stop (hd : s.cutDue i = false) : s.test i = s := by simp [State.test, State.testFor, hd]
  obtain free | halted | full | ⟨no_point, waits⟩ := h
  · exact stop (by simp [State.cutDue, free])
  · exact stop (by simp [State.cutDue, halted])
  · exact stop (by simp [State.cutDue, full])
  · have pass : s.testPass i = (s, false) := by
      have asked : ((s.stream i).finishing.isSome || s.supplyWait i) = true := by
        rcases waits with finishing | supply
        · rw [Option.isSome_iff_ne_none.mpr finishing, Bool.true_or]
        · rw [supply, Bool.or_true]
      simp only [State.testPass, no_point, asked, if_true]
    by_cases hd : s.cutDue i = true
    · simp [State.test, State.testFor, hd, pass]
    · exact stop (Bool.eq_false_iff.mpr hd)

end

/-! ### The marking of seals (R68) -/

section
variable (s : State)

theorem State.markPending_stream (i n : Nat) : (s.markPending i).stream n =
    if n = i ∧ 1 ≤ s.uncut i then { s.stream n with sealing := .pending } else s.stream n := by
  unfold State.markPending
  by_cases zero : s.uncut i = 0
  · simp [zero]
  · by_cases hn : n = i
    · subst hn; simp [zero, Nat.one_le_iff_ne_zero]
    · simp [zero, hn, State.setStream_stream]

theorem State.markPending_rest (i : Nat) : s.markPending i = { s with streams := (s.markPending i).streams } := by
  unfold State.markPending; split <;> rfl

theorem State.markPending_record (i r : Nat) : (s.markPending i).record r = s.record r := by
  rw [State.markPending_rest]; rfl

theorem State.markPending_chain (i n : Nat) : ((s.markPending i).stream n).chain = (s.stream n).chain := by
  rw [State.markPending_stream]; split <;> rfl

theorem State.markPending_uncut (i n : Nat) : (s.markPending i).uncut n = s.uncut n := by
  simp only [State.uncut, State.markPending_chain, State.markPending_record]

theorem State.markPending_blocked (i n : Nat) : (s.markPending i).blocked n ↔ s.blocked n := by
  have wait : (s.markPending i).supplyWait n = s.supplyWait n := by rw [State.markPending_rest]; rfl
  simp only [State.blocked, State.markPending_stream, wait]
  split <;> rfl

theorem State.marks_refl (p : Nat → Bool) (h : ∀ n, p n = true → s.uncut n = 0) : s.marks s p := by
  refine ⟨rfl, fun n => ?_⟩
  by_cases hp : p n = true
  · simp [h n hp]
  · simp [hp]

variable {s}

theorem State.marks.congr {t : State} {p q : Nat → Bool} (h : s.marks t p) (hq : ∀ n, 1 ≤ s.uncut n → p n = q n) :
    s.marks t q := by
  refine ⟨h.1, fun n => (h.2 n).trans ?_⟩
  by_cases some_uncut : 1 ≤ s.uncut n
  · rw [hq n some_uncut]
  · simp [some_uncut]

theorem State.markPending_marks (i : Nat) : s.marks (s.markPending i) fun n => n = i := by
  refine ⟨State.markPending_rest s i, fun n => (State.markPending_stream s i n).trans ?_⟩
  by_cases hn : n = i
  · subst hn; simp
  · simp [hn]

/-- The marking of one stream and then of others. -/
theorem State.marks.behind {t : State} {i : Nat} {p : Nat → Bool} (h : (s.markPending i).marks t p) :
    s.marks t fun n => n = i || p n := by
  obtain ⟨rest, streams⟩ := h
  refine ⟨rest.trans ?_, fun n => (streams n).trans ?_⟩
  · rw [State.markPending_rest]
  · rw [State.markPending_uncut, State.markPending_stream]
    by_cases hn : n = i
    · subst hn
      by_cases some_uncut : 1 ≤ s.uncut n <;> cases p n <;> simp [some_uncut]
    · simp [hn]

/-- Streams that can make no cut are marked, and stand so. -/
theorem State.foldl_mark_blocked (is : List Nat) (h : ∀ n ∈ is, 1 ≤ s.uncut n → s.blocked n) :
    s.marks (is.foldl State.markAndTest s) fun n => is.contains n := by
  induction is generalizing s with
  | nil => exact State.marks_refl s _ fun n hn => by simp at hn
  | cons i is ih =>
    have marked : s.markAndTest i = s.markPending i := by
      by_cases zero : s.uncut i = 0
      · simp [State.markAndTest, State.markPending, zero]
      · rw [State.markAndTest, if_neg zero, State.test_blocked]
        exact (State.markPending_blocked s i i).mpr (h i List.mem_cons_self (Nat.one_le_iff_ne_zero.mpr zero))
    rw [List.foldl_cons, marked]
    refine (ih fun n hn some_uncut => ?_).behind.congr fun n _ => ?_
    · rw [State.markPending_uncut] at some_uncut
      exact (State.markPending_blocked s i n).mpr (h n (List.mem_cons_of_mem _ hn) some_uncut)
    · simp

theorem State.markAndTest_none {i : Nat} (h : s.uncut i = 0) : s.markAndTest i = s := if_pos h

theorem State.foldl_mark_none (is : List Nat) (h : ∀ n ∈ is, s.uncut n = 0) : is.foldl State.markAndTest s = s := by
  induction is with
  | nil => rfl
  | cons i is ih =>
    rw [List.foldl_cons, State.markAndTest_none (h i List.mem_cons_self)]
    exact ih fun n hn => h n (List.mem_cons_of_mem _ hn)

/-- One stream with at most a unit uncut is marked and cuts its remainder; the others have nothing uncut. -/
theorem State.mark_rest {k slot : Nat} {g : Seg} (h : s.pointReady k g slot) (some_uncut : 1 ≤ s.uncut k)
    (few : s.uncut k ≤ s.geo.sectors) : (s.markPending k).cuts (s.markAndTest k) k g slot (s.restParts k) .disarmed ∧
      (s.markAndTest k).ports = s.ports := by
  have marked : s.markAndTest k = (s.markPending k).test k := if_neg (Nat.one_le_iff_ne_zero.mp some_uncut)
  have pending : s.markPending k = s.setStream k { s.stream k with sealing := .pending } :=
    if_neg (Nat.one_le_iff_ne_zero.mp some_uncut)
  have ready : (s.markPending k).pointReady k g slot := by
    rw [pending]
    simpa [State.pointReady] using h
  have parts : (s.markPending k).restParts k = s.restParts k := by
    simp only [State.restParts, State.markPending_chain, State.markPending_record]
  have geo : (s.markPending k).geo = s.geo := by rw [State.markPending_rest]; rfl
  have ports : (s.markPending k).ports = s.ports := by rw [State.markPending_rest]
  rw [marked, ← parts, ← ports]
  refine State.test_rest ready ?_ ?_ (.inr ?_)
  · rwa [State.markPending_uncut]
  · rwa [State.markPending_uncut, geo]
  · rw [pending, State.setStream_stream_same]

theorem State.foldl_mark_one {k slot : Nat} {g : Seg} (h : s.pointReady k g slot) (some_uncut : 1 ≤ s.uncut k)
    (few : s.uncut k ≤ s.geo.sectors) (is : List Nat) (hk : k ∈ is) (others : ∀ n ∈ is, n ≠ k → s.uncut n = 0) :
    is.foldl State.markAndTest s = s.markAndTest k := by
  obtain ⟨cuts, -⟩ := State.mark_rest h some_uncut few
  have parts : (s.markPending k).restParts k = s.restParts k := by
    simp only [State.restParts, State.markPending_chain, State.markPending_record]
  have left : (s.markAndTest k).uncut k = 0 := by
    rw [← parts] at cuts
    refine cuts.uncut_rest ?_
    rw [State.markPending_chain]
    exact h.2.2.1
  induction is with
  | nil => exact absurd hk List.not_mem_nil
  | cons i is ih =>
    rw [List.foldl_cons]
    by_cases hi : i = k
    · subst hi
      refine State.foldl_mark_none is fun n hn => ?_
      by_cases hn' : n = i
      · rw [hn', left]
      · have less := cuts.uncut_le n
        rw [State.markPending_uncut, others n (List.mem_cons_of_mem _ hn) hn'] at less
        exact Nat.le_zero.mp less
    · rw [State.markAndTest_none (others i List.mem_cons_self hi)]
      exact ih ((List.mem_cons.mp hk).resolve_left (Ne.symm hi)) fun n hn => others n (List.mem_cons_of_mem _ hn)

end

/-! ### The end of a step that cut -/

section
variable {s base u : State} {i k : Nat} {g : Seg} {parts : List (Nat × Nat)} {sealing : Seal}

theorem settle_cuts (h : base.cuts u i g k parts sealing) (ports : u.ports = s.ports) :
    s.hasNoAnswer (settle s u) ∧ s.delivers (settle s u) (fun _ => []) ∧ base.cuts (settle s u) i g k parts sealing := by
  obtain ⟨no_answer, delivers, rest⟩ := settle_does (State.Does.of_ports ports)
  exact ⟨no_answer, delivers, rest ▸ h.withPorts _⟩

theorem exec_cuts {c : Instr} {code : Code} {payload : List Byte} (hr : s.reaches c = true)
    (ha : requestAct c (s.setLink c.via.port .taken) = ⟨code, payload, u⟩) (h : base.cuts u i g k parts sealing)
    (ports : u.ports = (s.setLink c.via.port .taken).ports) : ∃ t, exec c s = .next t ∧ s.hasAnswer t c code payload ∧
      s.delivers t (fun _ => []) ∧ base.cuts t i g k parts sealing := by
  obtain ⟨t, next, answer, delivers, rest⟩ := exec_answers hr ha (State.Does.of_ports ports)
  exact ⟨t, next, answer, delivers, rest ▸ h.withPorts _⟩

end

/-! ### The expiry of a seal -/

/-- Settles O56, by what an expiry does on either side of the deadline (R67). -/
theorem sealExpiryCutsTheRemainder : Obligations.SealExpiryCutsTheRemainder := by
  intro s i k g deadline armed
  have step : exec (.sealExpiry i) s = .next (settle s (s.expireSeal i)) := rfl
  refine ⟨fun early => ?_, fun late some_uncut few ready => ?_⟩
  · have due : passed s.tick deadline = false := decide_eq_false (Nat.not_lt.mpr early)
    have waits : s.expireSeal i = s := by
      simp only [State.expireSeal, armed, due, Bool.false_eq_true, if_false]
    rw [step, waits, settle_eq_self s s fun p => by cases s.notice p <;> simp]
  · have pending : s.markPending i = s.setStream i { s.stream i with sealing := .pending } :=
      if_neg (Nat.one_le_iff_ne_zero.mp some_uncut)
    have expired : s.expireSeal i = s.markAndTest i := by
      have due : passed s.tick deadline = true := decide_eq_true late
      rw [State.markAndTest, if_neg (Nat.one_le_iff_ne_zero.mp some_uncut), pending]
      simp only [State.expireSeal, armed, due, if_true]
    obtain ⟨cuts, ports⟩ := State.mark_rest ready some_uncut few
    rw [pending] at cuts
    rw [step, expired]
    exact ⟨_, rfl, settle_cuts (cuts.of_sealed ready.1) ports⟩

end Sys2Proof.Machine
end

section
/-! The requests and inputs that mark the seals of a group of streams (R68): the settlement of O30 (R152, R156), O38 (R149,
R150), O54 (R158, R160) and O23 (R17). -/

namespace Sys2Proof.Machine

/-! ### Tables and functions -/

theorem Table.mem_of_read_ne {α : Type} {d : α} {t : Table α} {i : Nat} (h : Table.read d t i ≠ d) :
    (i, Table.read d t i) ∈ t := by
  induction t with
  | nil => exact absurd rfl h
  | cons c t ih =>
    obtain ⟨j, w⟩ := c
    rcases Nat.lt_trichotomy i j with less | same | more
    · exact absurd (by simp [Table.read, less]) h
    · subst same; simp [Table.read]
    · have behind : Table.read d ((j, w) :: t) i = Table.read d t i := by
        simp [Table.read, more.not_gt, (Nat.ne_of_gt more)]
      rw [behind] at h ⊢
      exact List.mem_cons_of_mem _ (ih h)

theorem Table.read_of_mem {α : Type} [DecidableEq α] {d : α} {t : Table α} (low : Nat)
    (h : Table.canonicalFrom d low t = true) {i : Nat} {v : α} (hv : (i, v) ∈ t) : Table.read d t i = v := by
  induction t generalizing low with
  | nil => exact absurd hv List.not_mem_nil
  | cons c t ih =>
    obtain ⟨j, w⟩ := c
    simp only [Table.canonicalFrom, Bool.and_eq_true] at h
    obtain ⟨-, behind⟩ := h
    rcases List.mem_cons.mp hv with same | hv
    · obtain ⟨rfl, rfl⟩ := Prod.mk.inj same
      simp [Table.read]
    · have found := ih _ behind hv
      by_cases first : i ≤ j
      · have listed : (i, v).1 ∈ Table.indices t := List.mem_map_of_mem hv
        obtain ⟨above, -⟩ := Table.indices_pairwise _ _ _ behind
        exact absurd (above _ listed) (by show ¬ j + 1 ≤ i; omega)
      · simp [Table.read, show ¬ i < j by omega, show i ≠ j by omega, found]

theorem State.setFunction_setFunction (s : State) (f : Nat) {v : Function} (w : Function) (h : v ≠ .powerOn) :
    (s.setFunction f v).setFunction f w = s.setFunction f w := by
  simp only [State.setFunction, Table.write_write _ _ _ _ _ h]

/-! ### Requests that change neither ports nor queues -/

theorem exec_kept {s u : State} {c : Instr} {code : Code} {payload : List Byte} (hr : s.reaches c = true)
    (ha : requestAct c (s.setLink c.via.port .taken) = ⟨code, payload, u⟩) (queues : u.queues = s.queues)
    (ports : u.ports = (s.setLink c.via.port .taken).ports) :
    exec c s = .next ((u.withPorts s.ports).answered c code payload) := by
  refine exec_quiet hr (ha.trans (congrArg _ ?_)) queues rfl
  calc u = u.withPorts u.ports := rfl
    _ = u.withPorts (s.setLink c.via.port .taken).ports := by rw [ports]

theorem State.setLink_hasRoom (s : State) (p : Port) (l : Link) (q : Port) : (s.setLink p l).hasRoom q = s.hasRoom q := by
  by_cases h : q = p
  · subst h; simp [State.hasRoom]
  · simp [State.hasRoom, State.setLink_port, h]

/-- A step that begins with changes apart from the ports. -/
theorem State.Does.after {s b t base : State} {told : Port → List Event} (h : b.Does t base told) (ports : b.ports = s.ports) :
    s.Does t base told := by
  refine ⟨h.rest, fun p => (h.sends p).trans ?_⟩
  rw [show b.port p = s.port p from congrArg (Ports.at · p) ports]

/-! ### A group of streams is marked -/

section
variable {b : State} {is : List Nat} {p : Nat → Bool}

theorem State.marks.withPorts {t : State} (h : b.marks t p) (ps : Ports) : (b.withPorts ps).marks (t.withPorts ps) p :=
  ⟨congrArg (State.withPorts · ps) h.1, h.2⟩

/-- Streams that can make no cut are marked and stand so; with nothing uncut, nothing changes. -/
theorem State.foldl_mark_standing (hp : ∀ n, 1 ≤ b.uncut n → (n ∈ is ↔ p n = true))
    (h : ∀ n, p n = true → 1 ≤ b.uncut n → b.blocked n) : b.marks (is.foldl State.markAndTest b) p := by
  refine (State.foldl_mark_blocked is fun n hn some_uncut => ?_).congr fun n some_uncut => ?_
  · exact h n ((hp n some_uncut).mp hn) some_uncut
  · rw [Bool.eq_iff_iff, List.contains_iff_mem, hp n some_uncut]

theorem State.markPending_withPorts (k : Nat) (ps : Ports) : (b.withPorts ps).markPending k = (b.markPending k).withPorts ps := by
  unfold State.markPending
  by_cases zero : b.uncut k = 0
  · rw [if_pos zero]; exact if_pos zero
  · rw [if_neg zero]; exact if_neg zero

/-- The one stream of the group with uncut sectors is marked and cuts its remainder. -/
theorem State.foldl_mark_cutting {k slot : Nat} {g : Seg} (ps : Ports)
    (hp : ∀ n, 1 ≤ b.uncut n → (n ∈ is ↔ p n = true))
    (only : ∀ n, p n = true ∧ 1 ≤ b.uncut n ↔ n = k) (few : b.uncut k ≤ b.geo.sectors) (ready : b.pointReady k g slot) :
    b.marks (b.markPending k) p ∧
      (b.markPending k).cuts (is.foldl State.markAndTest (b.withPorts ps)) k g slot (b.restParts k) .disarmed ∧
      (is.foldl State.markAndTest (b.withPorts ps)).ports = ps := by
  obtain ⟨mine, some_uncut⟩ := (only k).mpr rfl
  have one : is.foldl State.markAndTest (b.withPorts ps) = (b.withPorts ps).markAndTest k := by
    refine State.foldl_mark_one (s := b.withPorts ps) ready some_uncut few is ((hp k some_uncut).mpr mine) fun n hn other => ?_
    by_contra h
    have uncut : 1 ≤ b.uncut n := Nat.one_le_iff_ne_zero.mpr h
    exact other ((only n).mp ⟨(hp n uncut).mp hn, uncut⟩)
  obtain ⟨cuts, ports⟩ := State.mark_rest (s := b.withPorts ps) ready some_uncut few
  rw [State.markPending_withPorts] at cuts
  rw [one]
  refine ⟨(State.markPending_marks k).congr fun n uncut => ?_, cuts.of_withPorts, ports⟩
  by_cases hn : n = k
  · subst hn; simp [mine]
  · have not_mine : p n = false := Bool.eq_false_iff.mpr fun hpn => hn ((only n).mp ⟨hpn, uncut⟩)
    simp [hn, not_mine]

theorem State.foldl_mark_outer : (is.foldl State.markAndTest b).outer = b.outer :=
  foldl_keeps State.outer _ (fun s i => s.markAndTest_outer i) is b

theorem State.foldl_mark_ledger : (is.foldl State.markAndTest b).ledger = b.ledger :=
  foldl_keeps State.ledger _ (fun s i => s.markAndTest_ledger i) is b

end

theorem State.markPending_state (s : State) (i n : Nat) : ((s.markPending i).stream n).state = (s.stream n).state := by
  rw [State.markPending_stream]; split <;> rfl

theorem State.cuts.not_halted {s t : State} {i k n : Nat} {g : Seg} {parts : List (Nat × Nat)} {sealing : Seal}
    (h : s.cuts t i g k parts sealing) (hn : (s.stream n).state ≠ .halted) : (t.stream n).state ≠ .halted := by
  by_cases same : n = i
  · subst same
    rw [h.stream_self, Stream.withBatch]
    split
    · exact nofun
    · exact hn
  · rw [h.stream_of_ne same]
    exact hn

theorem State.mem_streamsOf (s : State) (f n : Nat) : n ∈ s.streamsOf f ↔ s.ofFunction f n = true := by
  rw [State.streamsOf, List.mem_filter]
  refine ⟨fun h => h.2, fun h => ⟨Table.mem_indices .powerOn _ _ fun same => ?_, h⟩⟩
  have free : (s.stream n).state = .free := congrArg Stream.state same
  simp [State.ofFunction, free] at h

theorem State.mem_openStreams (s : State) (n : Nat) : n ∈ s.openStreams ↔ (s.stream n).state ≠ .free := by
  rw [State.openStreams, List.mem_filter, decide_eq_true_eq]
  refine ⟨fun h => h.2, fun h => ⟨Table.mem_indices .powerOn _ _ fun same => h ?_, h⟩⟩
  exact congrArg Stream.state same

theorem State.ofFunction_iff {s : State} {f n : Nat} : s.ofFunction f n = true ↔
    (s.stream n).state ≠ .free ∧ (s.stream n).cls = .tenant ∧ (s.stream n).owner = f := by
  simp [State.ofFunction, and_assoc]

/-! ### FENCE FUNCTION in DRAIN mode (R152, R154, R156) -/

section
variable {s : State} {f : Nat} {p : Port}

theorem fenceModeOf_none {mode : Byte} (h : 1 < mode.toNat) : fenceModeOf mode = none := by
  have not_discard : mode ≠ 0 := by rintro rfl; simp at h
  have not_drain : mode ≠ 1 := by rintro rfl; simp at h
  rw [fenceModeOf, if_neg not_discard, if_neg not_drain]

theorem fenceModeOf_some {mode : Byte} (h : mode.toNat ≤ 1) :
    fenceModeOf mode = some (if mode.toNat = 1 then .drain else .discard) := by
  rcases byte_le_one h with rfl | rfl <;> rfl

theorem fenceFunctionAct_range {fn : Half} {mode : Byte} (hd : s.device = .run) (h : 255 < fn.toNat ∨ 1 < mode.toNat) :
    fenceFunctionAct p fn mode s = s.refuse .range := by
  refine (State.whileRun_pass _ hd).trans ?_
  by_cases hm : 1 < mode.toNat
  · rw [fenceModeOf_none hm]
  · rw [fenceModeOf_some (Nat.le_of_not_lt hm)]
    exact if_pos (h.resolve_right hm)

theorem fenceFunctionAct_eq {fn : Half} {mode : Byte} (hd : s.device = .run) (hf : fn.toNat ≤ 255) (hm : mode.toNat ≤ 1) :
    fenceFunctionAct p fn mode s = if (s.function fn.toNat).state ≠ .enabled then s.refuse .state
      else ⟨.accepted, [], s.startFence fn.toNat (if mode.toNat = 1 then .drain else .discard) p⟩ := by
  refine (State.whileRun_pass _ hd).trans ?_
  rw [fenceModeOf_some hm]
  exact if_neg hf.not_gt

theorem State.fenceTest_waits (h : (s.function f).outstanding ≠ 0) : s.fenceTest f = s := by
  cases hf : (s.function f).fence with
  | none => simp only [State.fenceTest, hf]
  | some m => simp only [State.fenceTest, hf, h, if_false]

theorem State.startFence_drain (s : State) (f : Nat) (p : Port) :
    s.startFence f .drain p = ((s.streamsOf f).foldl State.markAndTest (s.fence f .drain p)).fenceTest f := rfl

/-- A fence that waits for fragments outstanding. -/
theorem State.startFence_waits (h : (s.function f).outstanding ≠ 0) :
    s.startFence f .drain p = (s.streamsOf f).foldl State.markAndTest (s.fence f .drain p) := by
  rw [State.startFence_drain, State.fenceTest_waits]
  have fenced : ((s.streamsOf f).foldl State.markAndTest (s.fence f .drain p)).function f =
      (s.fence f .drain p).function f :=
    congrArg (Table.read Function.powerOn · f) (State.ledger_functions State.foldl_mark_ledger)
  rw [fenced, State.fence, State.setFunction_function_same]
  exact h

/-- A fence with nothing outstanding completes. -/
theorem State.fenceTest_completes {m : FenceMode} (h : (s.function f).outstanding = 0)
    (hf : (s.function f).fence = some (m, p)) : s.Does (s.fenceTest f)
      (s.setFunction f { s.function f with violations := 0, fence := none })
      (fun q => if q = p then [.fenceComplete f (s.function f).violations] else []) := by
  have completes : s.fenceTest f = (s.emit p (.fenceComplete f (s.function f).violations)).setFunction f
      { s.function f with violations := 0, fence := none } := by
    simp only [State.fenceTest, hf, h, if_true]
  rw [completes]
  exact (((State.Does.refl s).emit p _).map (fun x => x.setFunction f { s.function f with violations := 0, fence := none })
    (fun _ _ => rfl) (fun _ => rfl)).told_eq fun _ => List.nil_append _

end

/-- Settles O30, by the marking of the function's streams and the completion test of its fence. -/
theorem fenceFunctionInDrainMode : Obligations.FenceFunctionInDrainMode := by
  unfold Obligations.FenceFunctionInDrainMode
  intro v fn mode s hr hd i f fr fenced
  let x := s.setLink v.port .taken
  have act (hf : f ≤ 255) (hm : mode.toNat ≤ 1) :=
    fenceFunctionAct_eq (s := x) (p := v.port) (fn := fn) (mode := mode) hd hf hm
  have accepted (hf : f ≤ 255) (hm : mode.toNat = 1) (he : fr.state = .enabled) :
      requestAct i x = ⟨.accepted, [], x.startFence f .drain v.port⟩ := by
    refine (act hf hm.le).trans ((if_neg (not_not.mpr he)).trans ?_)
    rw [if_pos hm]
  have group (n : Nat) : n ∈ x.streamsOf f ↔ s.ofFunction f n = true := State.mem_streamsOf s f n
  have kept (u : State) (p : Nat → Bool) (h : (x.fence f .drain v.port).marks u p) :
      u.queues = s.queues ∧ u.ports = x.ports := by rw [h.1]; exact ⟨rfl, rfl⟩
  refine ⟨fun h => exec_refused hr (fenceFunctionAct_range (s := x) hd h), fun hf hm he => exec_refused hr ?_,
    fun hf hm he none_uncut => ?_, fun hf hm he some_out => ⟨fun standing => ?_, fun k g slot only few ready => ?_⟩⟩
  · exact (act hf hm).trans (if_pos he)
  · have idle : (x.streamsOf f).foldl State.markAndTest (x.fence f .drain v.port) = x.fence f .drain v.port := by
      refine State.foldl_mark_none _ fun n hn => ?_
      obtain ⟨not_free, tenant, mine⟩ := State.ofFunction_iff.mp ((group n).mp hn)
      exact none_uncut n not_free tenant mine
    refine ⟨fun some_out => ?_, fun none_out room => ?_⟩
    · refine exec_quiet hr ((accepted hf hm he).trans (congrArg _ ?_)) rfl rfl
      rw [State.startFence_waits (s := x) some_out, idle]
      rfl
    · have own : (x.fence f .drain v.port).function f = { fr with state := .fenced, fence := some (.drain, v.port) } :=
        State.setFunction_function_same ..
      have does := State.fenceTest_completes (s := x.fence f .drain v.port) (f := f) (by rw [own]; exact none_out)
        (by rw [own])
      rw [own] at does
      have start : x.startFence f .drain v.port = (x.fence f .drain v.port).fenceTest f := by
        rw [State.startFence_drain, idle]
      obtain ⟨t, next, answer, delivers, rest⟩ := exec_answers hr ((accepted hf hm he).trans (congrArg _ start))
        (does.after (s := x) rfl)
      refine ⟨t, next, answer, rest.trans ?_, delivers.tells_of_roomFor room fun q => ?_⟩
      · have merged : (x.fence f .drain v.port).setFunction f
            { fr with state := .fenced, fence := none, violations := 0 } =
              x.setFunction f { fr with state := .fenced, fence := none, violations := 0 } :=
          State.setFunction_setFunction x f _ fun same => by
            have state := congrArg Function.state same
            simp [Function.powerOn] at state
        have both := congrArg (State.withPorts · t.ports) merged
        exact both
      · dsimp only
        split <;> simp
  · have marked := State.foldl_mark_standing (b := x.fence f .drain v.port) (p := s.ofFunction f)
      (fun n _ => group n) standing
    obtain ⟨queues, ports⟩ := kept _ _ marked
    refine ⟨_, exec_kept hr ((accepted hf hm he).trans (congrArg _ (State.startFence_waits (s := x) some_out))) queues ports, ?_⟩
    exact marked.withPorts s.ports
  · obtain ⟨marked, cuts, ports⟩ := State.foldl_mark_cutting (b := fenced) (p := s.ofFunction f) x.ports
      (fun n _ => group n) only few ready
    obtain ⟨t, next, answer, delivers, cuts⟩ := exec_cuts hr
      ((accepted hf hm he).trans (congrArg _ (State.startFence_waits (s := x) some_out))) cuts ports
    exact ⟨t, fenced.markPending k, next, answer, delivers, marked, cuts⟩

/-! ### FLUSH FUNCTION (R149, R150) -/

section
variable {s : State} {f : Nat}

/-- A completion that finds nothing waiting and room for its event is reported at once. -/
theorem State.addReport_only {c : Completion} (hr : s.reports = []) (room : s.hasRoom (s.reportPort c) = true) :
    s.addReport c = ({ s with reports := [c] } : State).report c := by
  let t : State := { s with reports := [c] }
  have port : t.reportPort c = s.reportPort c := rfl
  have joined : s.addReport c = t.placeReports (t.reportPort c) := by
    rw [State.addReport, hr]; rfl
  have oldest : t.oldestReport (t.reportPort c) = some c := by simp [State.oldestReport, t]
  have has_room : t.hasRoom (t.reportPort c) = true := room
  rw [joined, State.placeReports]
  show State.placeFor 1 t (t.reportPort c) = _
  simp only [State.placeFor, has_room, if_true, oldest]
  rfl

theorem State.addReport_flush (hr : s.reports = []) (room : s.hasRoom .fp = true) : s.Does (s.addReport (.flush f))
    (s.setFunction f { s.function f with flush := .none })
    (fun q => if q = .fp then [.flushDone f (s.function f).flush.tag] else []) := by
  let t : State := { s with reports := [] }
  have same : t = s := by
    show { s with reports := [] } = s
    rw [← hr]
  have reported : s.addReport (.flush f) = (t.pushEvent .fp (.flushDone f (t.function f).flush.tag)).setFunction f
      { t.function f with flush := .none } := by
    rw [State.addReport_only (c := .flush f) hr room]
    simp only [State.report, List.erase_cons_head]
    rfl
  rw [reported, same, State.pushEvent_eq_emit room]
  exact (((State.Does.refl s).emit .fp _).map (fun x => x.setFunction f { s.function f with flush := .none })
    (fun _ _ => rfl) (fun _ => rfl)).told_eq fun _ => List.nil_append _

/-- R150: a CHAINED record of the function, admitted before the serial, holds the flush. -/
theorem State.flushHeld_of {serial a : Word} {r : Nat} (hc : (s.record r).condition = .chained)
    (ho : (s.record r).origin = .tenant f a) (hs : earlier a serial = true) : s.flushHeld f serial = true := by
  have listed : (r, s.record r) ∈ s.records := Table.mem_of_read_ne fun same => by
    have condition : (s.record r).condition = .free := congrArg Fragment.condition same
    rw [hc] at condition
    cases condition
  refine List.any_eq_true.mpr ⟨_, listed, ?_⟩
  simp [hc, ho, hs]

theorem State.exists_of_flushHeld {serial : Word} (canonical : Table.canonical .powerOn s.records = true)
    (h : s.flushHeld f serial = true) : ∃ r a, (s.record r).condition = .chained ∧
      (s.record r).origin = .tenant f a ∧ earlier a serial = true := by
  obtain ⟨⟨r, v⟩, listed, holds⟩ := List.any_eq_true.mp h
  have read : s.record r = v := Table.read_of_mem 0 canonical listed
  rw [Bool.and_eq_true, decide_eq_true_eq] at holds
  obtain ⟨chained, mine⟩ := holds
  refine ⟨r, ?_⟩
  rw [read]
  cases ho : v.origin with
  | reclaim => simp [ho] at mine
  | tenant g a =>
    simp only [ho, Bool.and_eq_true, decide_eq_true_eq] at mine
    exact ⟨a, chained, by rw [mine.1], mine.2⟩

theorem earlier_iff (a b : Word) : earlier a b = true ↔ 1 ≤ (b - a).toNat ∧ (b - a).toNat < 2 ^ 31 := by
  simp only [earlier, Bool.and_eq_true, decide_eq_true_eq]

theorem State.flushTest_held {serial tag : Word} (hf : (s.function f).flush = .pending serial tag)
    (h : s.flushHeld f serial = true) : s.flushTest f = s := by
  simp only [State.flushTest, hf, h, if_true]

theorem State.flushTest_free {serial tag : Word} (hf : (s.function f).flush = .pending serial tag)
    (h : s.flushHeld f serial = false) :
    s.flushTest f = (s.setFunction f { s.function f with flush := .complete serial tag }).addReport (.flush f) := by
  simp only [State.flushTest, hf, h, Bool.false_eq_true, if_false]

/-- The state a FLUSH FUNCTION has stored, before its streams are marked (R149). -/
def State.flushing (s : State) (f : Nat) (tag : Word) : State :=
  s.setFunction f { s.function f with flush := .pending (s.function f).serial tag }

theorem State.startFlush_eq (s : State) (f : Nat) (tag : Word) : s.startFlush f tag =
    ((s.streamsOf f).foldl State.markAndTest (s.flushing f tag)).flushTest f := rfl

/-- A flush that an older record holds. -/
theorem State.startFlush_held {tag a : Word} {r : Nat}
    (hc : (((s.streamsOf f).foldl State.markAndTest (s.flushing f tag)).record r).condition = .chained)
    (ho : (((s.streamsOf f).foldl State.markAndTest (s.flushing f tag)).record r).origin = .tenant f a)
    (hs : earlier a (s.function f).serial = true) :
    s.startFlush f tag = (s.streamsOf f).foldl State.markAndTest (s.flushing f tag) := by
  rw [State.startFlush_eq]
  refine State.flushTest_held (serial := (s.function f).serial) (tag := tag) ?_ (State.flushHeld_of hc ho hs)
  have own : ((s.streamsOf f).foldl State.markAndTest (s.flushing f tag)).function f = (s.flushing f tag).function f :=
    congrArg (Table.read Function.powerOn · f) (State.ledger_functions State.foldl_mark_ledger)
  rw [own, State.flushing, State.setFunction_function_same]

/-- A flush that nothing holds is reported at once. -/
theorem State.flushTest_reports {tag : Word} (h : s.flushHeld f (s.function f).serial = false)
    (hd : (s.function f).state ≠ .disabled) (none_before : (s.function f).flush = .none) (hr : s.reports = [])
    (room : s.hasRoom .fp = true) :
    s.Does ((s.flushing f tag).flushTest f) s (fun q => if q = .fp then [.flushDone f tag] else []) := by
  let c := s.setFunction f { s.function f with flush := .complete (s.function f).serial tag }
  have listed (fl : Flush) : ({ s.function f with flush := fl } : Function) ≠ .powerOn := fun same => by
    have state : (s.function f).state = .disabled := congrArg Function.state same
    exact hd state
  have own : (s.flushing f tag).function f = { s.function f with flush := .pending (s.function f).serial tag } :=
    State.setFunction_function_same ..
  have complete : (s.flushing f tag).flushTest f = c.addReport (.flush f) := by
    rw [State.flushTest_free (s := s.flushing f tag) (serial := (s.function f).serial) (tag := tag) (by rw [own]) h, own]
    exact congrArg (State.addReport · _) (State.setFunction_setFunction s f _ (listed _))
  have done : c.function f = { s.function f with flush := .complete (s.function f).serial tag } :=
    State.setFunction_function_same ..
  have does := State.addReport_flush (s := c) (f := f) hr room
  rw [done] at does
  rw [complete]
  refine ((does.after (s := s) rfl).told_eq fun _ => rfl).base_eq ?_
  have cleared : ({ s.function f with flush := .none } : Function) = s.function f := by rw [← none_before]
  have back : c.setFunction f { s.function f with flush := .none } = s := by
    rw [State.setFunction_setFunction s f _ (listed _), cleared, State.setFunction, State.function,
      Table.write_read_of_ne _ _ _ fun same => hd (congrArg Function.state same)]
  exact congrArg (State.withPorts · _) back

theorem flushFunctionAct_eq {fn : Half} {tag : Word} (hd : s.device = .run) : flushFunctionAct fn tag s =
    if 255 < fn.toNat then s.refuse .range
    else if (s.function fn.toNat).state = .disabled then s.refuse .disabled
    else if (s.function fn.toNat).flush ≠ .none then s.refuse .state
    else ⟨.accepted, [], s.startFlush fn.toNat tag⟩ := State.whileRun_pass _ hd

end

/-- Settles O38, by the marking of the function's streams and the completion test of its flush. -/
theorem flushFunctionWaitsForOlderRecords : Obligations.FlushFunctionWaitsForOlderRecords := by
  unfold Obligations.FlushFunctionWaitsForOlderRecords
  intro v fn tag s hr hd i f fr flushing older
  let x := s.setLink v.port .taken
  have act := flushFunctionAct_eq (s := x) (fn := fn) (tag := tag) hd
  have accepted (hf : f ≤ 255) (he : fr.state ≠ .disabled) (hn : fr.flush = .none) :
      requestAct i x = ⟨.accepted, [], x.startFlush f tag⟩ :=
    act.trans ((if_neg hf.not_gt).trans ((if_neg he).trans (if_neg (not_not.mpr hn))))
  have group (n : Nat) : n ∈ x.streamsOf f ↔ s.ofFunction f n = true := State.mem_streamsOf s f n
  have idle (none_uncut : ∀ n, (s.stream n).state ≠ .free → (s.stream n).cls = .tenant → (s.stream n).owner = f →
      s.uncut n = 0) : (x.streamsOf f).foldl State.markAndTest (x.flushing f tag) = x.flushing f tag := by
    refine State.foldl_mark_none _ fun n hn => ?_
    obtain ⟨not_free, tenant, mine⟩ := State.ofFunction_iff.mp ((group n).mp hn)
    exact none_uncut n not_free tenant mine
  have start (waits : older) (kept : ∀ r,
      (((x.streamsOf f).foldl State.markAndTest (x.flushing f tag)).record r).condition = (s.record r).condition ∧
      (((x.streamsOf f).foldl State.markAndTest (x.flushing f tag)).record r).origin = (s.record r).origin) :
      x.startFlush f tag = (x.streamsOf f).foldl State.markAndTest (x.flushing f tag) := by
    obtain ⟨r, a, chained, mine, before⟩ := waits
    obtain ⟨condition, origin⟩ := kept r
    exact State.startFlush_held (condition.trans chained) (origin.trans mine) ((earlier_iff a fr.serial).mpr before)
  refine ⟨fun h => exec_refused hr (act.trans (if_pos h)),
    fun hf hdis => exec_refused hr (act.trans ((if_neg hf.not_gt).trans (if_pos hdis))),
    fun hf he hn => exec_refused hr (act.trans ((if_neg hf.not_gt).trans ((if_neg he).trans (if_pos hn)))),
    fun hf he hn canonical none_uncut => ⟨fun waits => ?_, fun free reports room => ?_⟩,
    fun hf he hn canonical waits => ⟨fun standing => ?_, fun k g slot only few ready => ?_⟩⟩
  · have start := start waits fun r => by rw [idle none_uncut]; exact ⟨rfl, rfl⟩
    exact exec_quiet hr ((accepted hf he hn).trans (congrArg _ (start.trans (idle none_uncut)))) rfl rfl
  · have not_held : x.flushHeld f (x.function f).serial = false := by
      refine Bool.eq_false_iff.mpr fun held => free ?_
      obtain ⟨r, a, chained, mine, before⟩ := State.exists_of_flushHeld (s := x) canonical held
      exact ⟨r, a, chained, mine, (earlier_iff a fr.serial).mp before⟩
    have has_room : x.hasRoom .fp = true := by
      rw [State.setLink_hasRoom]
      exact decide_eq_true (room .fp)
    have does := State.flushTest_reports (s := x) (tag := tag) not_held he hn reports has_room
    have start : x.startFlush f tag = (x.flushing f tag).flushTest f := by rw [State.startFlush_eq, idle none_uncut]
    obtain ⟨t, next, answer, delivers, rest⟩ := exec_answers hr ((accepted hf he hn).trans (congrArg _ start)) does
    refine ⟨t, next, answer, rest, delivers.tells_of_roomFor room fun q => ?_⟩
    split <;> simp
  · have marked := State.foldl_mark_standing (b := x.flushing f tag) (p := s.ofFunction f) (fun n _ => group n) standing
    have start := start waits fun r => by rw [marked.1]; exact ⟨rfl, rfl⟩
    refine ⟨_, exec_kept hr ((accepted hf he hn).trans (congrArg _ start)) ?_ ?_, marked.withPorts s.ports⟩
    · rw [marked.1]; rfl
    · rw [marked.1]; rfl
  · obtain ⟨marked, cuts, ports⟩ := State.foldl_mark_cutting (b := flushing) (p := s.ofFunction f) x.ports
      (fun n _ => group n) only few ready
    have start := start waits fun r => by
      have record := cuts.record r
      rw [State.markPending_record] at record
      exact ⟨(congrArg Fragment.condition record :), (congrArg Fragment.origin record :)⟩
    obtain ⟨t, next, answer, delivers, cuts⟩ := exec_cuts hr ((accepted hf he hn).trans (congrArg _ start)) cuts ports
    exact ⟨t, flushing.markPending k, next, answer, delivers, marked, cuts⟩

/-! ### Power-on reset and POWER-FAIL (R158, R160, R176) -/

section
variable {s : State}

theorem State.completeDrain_does (s : State) (n : Nat) : s.Does (s.completeDrain n)
    (s.setControl { s.control with device := .drained }) (fun _ => [.drainComplete n]) := by
  have told := ((((State.Does.refl s).emit .fp (.drainComplete n)).emit .mp0 (.drainComplete n)).emit .mp1
    (.drainComplete n)).emit .rp (.drainComplete n)
  have control : ((((s.emit .fp (.drainComplete n)).emit .mp0 (.drainComplete n)).emit .mp1 (.drainComplete n)).emit .rp
      (.drainComplete n)).control = s.control := State.outer_control (by simp)
  have drained := told.map (fun x => x.setControl { s.control with device := .drained }) (fun _ _ => rfl) (fun _ => rfl)
  have complete : s.completeDrain n = ((((s.emit .fp (.drainComplete n)).emit .mp0 (.drainComplete n)).emit .mp1
      (.drainComplete n)).emit .rp (.drainComplete n)).setControl { s.control with device := .drained } := by
    rw [State.completeDrain, control]
  rw [complete]
  refine drained.told_eq fun p => ?_
  cases p <;> rfl

/-- R160: a CHAINED record of a stream that is not HALTED keeps the drain going. -/
theorem State.drainTest_waits {r : Nat} (hc : (s.record r).condition = .chained)
    (hs : (s.stream (s.record r).stream).state ≠ .halted) : s.drainTest = s := by
  have listed : (r, s.record r) ∈ s.records := Table.mem_of_read_ne fun same => by
    have condition : (s.record r).condition = .free := congrArg Fragment.condition same
    rw [hc] at condition
    cases condition
  have waits : s.drainReady = false := by
    refine List.all_eq_false.mpr ⟨_, listed, ?_⟩
    simp [hc, hs]
  rw [State.drainTest, waits, Bool.and_false]
  exact if_neg Bool.false_ne_true

theorem State.drainTest_completes (hd : s.device = .drain) (canonical : Table.canonical .powerOn s.records = true)
    (h : ∀ r, (s.record r).condition = .chained → (s.stream (s.record r).stream).state = .halted) :
    s.drainTest = s.completeDrain s.chainedCount := by
  have ready : s.drainReady = true := by
    refine List.all_eq_true.mpr fun ⟨r, v⟩ listed => ?_
    have read : s.record r = v := Table.read_of_mem 0 canonical listed
    have halted := h r
    rw [read] at halted
    by_cases chained : v.condition = .chained
    · simp [halted chained]
    · simp [chained]
  simp [State.drainTest, ready, hd]

/-- The state an assertion in RUN has stored, before the streams are marked (R158). -/
def State.draining (s : State) : State := s.setControl { s.control with powerFail := true, device := .drain }

theorem exec_powerFailAssertion (hp : s.control.powerFail = false) :
    exec .powerFailAssertion s = .next (settle s (s.setPowerFail true).powerFails) := by
  have step : exec .powerFailAssertion s = execPowerFailAssertion s := rfl
  rw [step, execPowerFailAssertion, hp]
  rfl

theorem exec_powerFailAssertion_run (hp : s.control.powerFail = false) (hd : s.device = .run) :
    exec .powerFailAssertion s =
      .next (settle s (s.openStreams.foldl State.markAndTest s.draining).drainTest) := by
  have device : (s.setPowerFail true).device = .run := hd
  rw [exec_powerFailAssertion hp, State.powerFails, device]
  rfl

end

/-- Settles O54, by the marking of every open stream and the completion test of the drain. -/
theorem resetAndPowerFail : Obligations.ResetAndPowerFail := by
  unfold Obligations.ResetAndPowerFail
  intro s draining held isOpen
  have reset : exec .powerOnReset s = execPowerOnReset s := rfl
  have group (n : Nat) : n ∈ s.openStreams ↔ isOpen n = true := by
    rw [State.mem_openStreams, decide_eq_true_eq]
  have idle (none_uncut : ∀ n, (s.stream n).state ≠ .free → s.uncut n = 0) :
      s.openStreams.foldl State.markAndTest s.draining = s.draining :=
    State.foldl_mark_none _ fun n hn => none_uncut n ((State.mem_openStreams s n).mp hn)
  have waits (h : held) {u : State} (condition : ∀ r, (u.record r).condition = (s.record r).condition ∧
      (u.record r).stream = (s.record r).stream) (state : ∀ n, (s.stream n).state ≠ .halted → (u.stream n).state ≠ .halted) :
      u.drainTest = u := by
    obtain ⟨r, chained, not_halted⟩ := h
    obtain ⟨same, mine⟩ := condition r
    refine State.drainTest_waits (same.trans chained) ?_
    rw [mine]
    exact state _ not_halted
  have quiet (u : State) (queues : u.queues = s.queues) (ports : u.ports = s.ports) : settle s u = u :=
    settle_quiet s u queues fun p => by rw [State.port, ports]; rfl
  refine ⟨fun hp => ?_, fun hp => ?_, fun hp => ?_, fun hp hd => ?_, fun hp hd room => ?_,
    fun hp hd canonical none_uncut => ⟨fun h => ?_, fun all room => ?_⟩,
    fun hp hd canonical h => ⟨fun standing => ?_, fun k g slot only few ready => ?_⟩⟩
  · rw [reset, execPowerOnReset, hp, State.powerOnReset, hp]
    rfl
  · rw [reset, execPowerOnReset, hp, State.powerOnReset, hp]
    rfl
  · have step : exec .powerFailAssertion s = execPowerFailAssertion s := rfl
    rw [step, execPowerFailAssertion, hp]
    rfl
  · have stays : (s.setPowerFail true).powerFails = s.setPowerFail true := by
      have device : (s.setPowerFail true).device = s.device := rfl
      rcases hd with hd | hd <;> rw [State.powerFails, device, hd]
    rw [exec_powerFailAssertion hp, stays, quiet (s.setPowerFail true) rfl rfl]
    rfl
  · have complete : (s.setPowerFail true).powerFails = (s.setPowerFail true).completeDrain 0 := by
      have device : (s.setPowerFail true).device = .config := hd
      rw [State.powerFails, device]
    have does := ((s.setPowerFail true).completeDrain_does 0).after (s := s) rfl
    obtain ⟨no_answer, delivers, rest⟩ := settle_does does
    rw [exec_powerFailAssertion hp, complete]
    exact ⟨_, rfl, no_answer, rest, delivers.tells_of_roomFor room fun _ => le_rfl⟩
  · rw [exec_powerFailAssertion_run hp hd, idle none_uncut, waits (u := s.draining) h (fun _ => ⟨rfl, rfl⟩) (fun _ => id),
      quiet s.draining rfl rfl]
    rfl
  · have complete : s.draining.drainTest = s.draining.completeDrain s.chainedCount :=
      State.drainTest_completes (s := s.draining) rfl canonical all
    have does := (s.draining.completeDrain_does s.chainedCount).after (s := s) rfl
    obtain ⟨no_answer, delivers, rest⟩ := settle_does does
    rw [exec_powerFailAssertion_run hp hd, idle none_uncut, complete]
    exact ⟨_, rfl, no_answer, rest, delivers.tells_of_roomFor room fun _ => le_rfl⟩
  · have marked := State.foldl_mark_standing (b := s.draining) (p := isOpen) (fun n _ => group n) standing
    rw [exec_powerFailAssertion_run hp hd, waits h, quiet]
    · exact ⟨_, rfl, marked⟩
    · rw [marked.1]; rfl
    · rw [marked.1]; rfl
    · intro r; rw [marked.1]; exact ⟨rfl, rfl⟩
    · intro n not_halted
      rw [marked.2]
      split <;> exact not_halted
  · obtain ⟨marked, cuts, ports⟩ := State.foldl_mark_cutting (b := s.draining) (p := isOpen) s.ports
      (fun n _ => group n) only few ready
    rw [exec_powerFailAssertion_run hp hd, waits h]
    · obtain ⟨no_answer, delivers, cuts⟩ := settle_cuts cuts ports
      exact ⟨_, s.draining.markPending k, rfl, no_answer, delivers, marked, cuts⟩
    · intro r
      have record := cuts.record r
      rw [State.markPending_record] at record
      exact ⟨(congrArg Fragment.condition record :), (congrArg Fragment.stream record :)⟩
    · intro n not_halted
      refine cuts.not_halted ?_
      rw [State.markPending_state]
      exact not_halted

end Sys2Proof.Machine
end

section
/-! The close of a stream (R17 to R20): the settlement of O23 and O24. -/

namespace Sys2Proof.Machine

/-! ### The bindings that name a stream (R6, R17) -/

/-- A state with its bindings replaced. -/
def State.withBindings (s : State) (bs : Table (Option Nat)) : State := { s with bindings := bs }

section
variable {s : State} {i : Nat}

theorem State.unbindFrom_rest (f k : Nat) :
    State.unbindFrom i f s k = s.withBindings (State.unbindFrom i f s k).bindings := by
  unfold State.unbindFrom; split <;> rfl

theorem State.unbindFrom_binding {f k f' k' : Nat} (hk : k < 8) (hk' : k' < 8) : (State.unbindFrom i f s k).binding f' k' =
    if (f' = f ∧ k' = k) ∧ s.binding f' k' = some i then none else s.binding f' k' := by
  have index : bindingIndex f' k' = bindingIndex f k ↔ f' = f ∧ k' = k := by
    unfold bindingIndex; omega
  unfold State.unbindFrom
  by_cases here : f' = f ∧ k' = k
  · obtain ⟨rfl, rfl⟩ := here
    split
    · rename_i named; simp [named]
    · rename_i other; simp [other]
  · simp only [here, false_and, if_false]
    split
    · rw [State.setBinding_binding, if_neg (fun same => here (index.mp same))]
    · rfl

theorem State.foldl_unbind (f : Nat) (ks : List Nat) (hks : ∀ k ∈ ks, k < 8) :
    ks.foldl (State.unbindFrom i f) s = s.withBindings (ks.foldl (State.unbindFrom i f) s).bindings ∧
      ∀ f' k', k' < 8 → (ks.foldl (State.unbindFrom i f) s).binding f' k' =
        if (f' = f ∧ k' ∈ ks) ∧ s.binding f' k' = some i then none else s.binding f' k' := by
  induction ks generalizing s with
  | nil => exact ⟨rfl, fun f' k' _ => by simp⟩
  | cons k ks ih =>
    obtain ⟨rest, bindings⟩ := ih (s := State.unbindFrom i f s k) fun k hk => hks k (List.mem_cons_of_mem _ hk)
    refine ⟨rest.trans ?_, fun f' k' hk' => (bindings f' k' hk').trans ?_⟩
    · have both := congrArg (State.withBindings · (ks.foldl (State.unbindFrom i f) (State.unbindFrom i f s k)).bindings)
        (State.unbindFrom_rest (s := s) (i := i) f k)
      exact both
    · rw [State.unbindFrom_binding (hks k List.mem_cons_self) hk']
      by_cases named : s.binding f' k' = some i <;> by_cases mine : f' = f <;> by_cases first : k' = k <;>
        simp [named, mine, first]

/-- The bindings of the owner that named the stream are gone, and nothing else changed. -/
theorem State.unbindAll_spec : s.unbindAll i = s.withBindings (s.unbindAll i).bindings ∧
    ∀ f k, k < 8 → Table.read none (s.unbindAll i).bindings (bindingIndex f k) =
      if f = (s.stream i).owner ∧ s.binding f k = some i then none else s.binding f k := by
  obtain ⟨rest, bindings⟩ := State.foldl_unbind (s := s) (i := i) (s.stream i).owner (List.range 8) fun k hk => List.mem_range.mp hk
  refine ⟨rest, fun f k hk => (bindings f k hk).trans ?_⟩
  simp [hk]

/-! ### An accepted CLOSE STREAM -/

/-- The context of a stream that starts to drain (R17). -/
def Stream.closing (st : Stream) (p : Port) : Stream := { st with state := .draining, requester := some p, boundHints := 0 }

/-- Stream i starts to drain, the bindings given (R17). -/
def State.closing (s : State) (i : Nat) (p : Port) (bs : Table (Option Nat)) : State :=
  (s.withBindings bs).setStream i ((s.stream i).closing p)

theorem State.startClose_eq (s : State) (i : Nat) (p : Port) :
    s.startClose i p = ((s.closing i p (s.unbindAll i).bindings).markAndTest i).closeTest i := by
  obtain ⟨rest, -⟩ := State.unbindAll_spec (s := s) (i := i)
  have unfolded : s.startClose i p =
      (((s.unbindAll i).setStream i (((s.unbindAll i).stream i).closing p)).markAndTest i).closeTest i := rfl
  rw [unfolded]
  generalize s.unbindAll i = u at rest ⊢
  have stream : u.stream i = s.stream i := by rw [rest]; rfl
  rw [stream]
  conv_lhs => rw [rest]
  rfl

theorem State.closing_withPorts (p : Port) (bs : Table (Option Nat)) (ps : Ports) :
    (s.withPorts ps).closing i p bs = (s.closing i p bs).withPorts ps := rfl

theorem State.withPorts_self {ps : Ports} (h : s.ports = ps) : s.withPorts ps = s := by
  subst h; rfl

theorem State.setLink_eq (s : State) (p : Port) (l : Link) : s.setLink p l = s.withPorts (s.setLink p l).ports := rfl

/-- An accepted CLOSE STREAM, apart from the link: with `bs` the bindings that are left. -/
theorem State.startClose_spec (s : State) (i : Nat) (p : Port) (l : Link) : ∃ bs,
    (s.setLink p l).startClose i p =
      (((s.closing i p bs).withPorts (s.setLink p l).ports).markAndTest i).closeTest i ∧
    ∀ f k, k < 8 → Table.read none bs (bindingIndex f k) =
      if f = (s.stream i).owner ∧ s.binding f k = some i then none else s.binding f k := by
  obtain ⟨-, bindings⟩ := State.unbindAll_spec (s := s.setLink p l) (i := i)
  refine ⟨((s.setLink p l).unbindAll i).bindings, ?_, bindings⟩
  rw [State.startClose_eq, ← State.closing_withPorts, ← State.setLink_eq]

variable {bs : Table (Option Nat)}

theorem State.closing_uncut (p : Port) : (s.closing i p bs).uncut i = s.uncut i :=
  State.setStream_uncut (s := s.withBindings bs) _ rfl

theorem State.closing_stream (p : Port) (n : Nat) :
    (s.closing i p bs).stream n = if n = i then (s.stream i).closing p else s.stream n := State.setStream_stream ..

@[simp] theorem State.closing_stream_same (p : Port) : (s.closing i p bs).stream i = (s.stream i).closing p :=
  State.setStream_stream_same ..

theorem State.closing_restParts (p : Port) : (s.closing i p bs).restParts i = s.restParts i := by
  simp only [State.restParts, State.closing_stream_same]
  rfl

/-- The words of the statement: stream i drains, with this seal, and no entry of its owner names it. -/
def State.drainsTo (s t : State) (i : Nat) (p : Port) (sealing : Seal) : Prop :=
  t = { s with streams := t.streams, bindings := t.bindings } ∧
    (∀ n, t.stream n = if n = i then { (s.stream i).closing p with sealing := sealing } else s.stream n) ∧
    ∀ f k, k < 8 → t.binding f k = if f = (s.stream i).owner ∧ s.binding f k = some i then none else s.binding f k

theorem State.closing_drainsTo (p : Port) (hb : ∀ f k, k < 8 → Table.read none bs (bindingIndex f k) =
    if f = (s.stream i).owner ∧ s.binding f k = some i then none else s.binding f k) :
    s.drainsTo (s.closing i p bs) i p (s.stream i).sealing :=
  ⟨rfl, fun n => State.closing_stream p n, hb⟩

theorem State.closing_markPending (p : Port) (hb : ∀ f k, k < 8 → Table.read none bs (bindingIndex f k) =
    if f = (s.stream i).owner ∧ s.binding f k = some i then none else s.binding f k) (some_uncut : 1 ≤ s.uncut i) :
    s.drainsTo ((s.closing i p bs).markPending i) i p .pending := by
  have marked : (s.closing i p bs).markPending i =
      (s.closing i p bs).setStream i { (s.stream i).closing p with sealing := .pending } := by
    rw [State.markPending, State.closing_uncut, if_neg (Nat.one_le_iff_ne_zero.mp some_uncut), State.closing_stream_same]
  rw [marked]
  refine ⟨rfl, fun n => ?_, hb⟩
  rw [State.setStream_stream, State.closing_stream]
  split <;> rfl

theorem State.closing_blocked (p : Port) (h : s.blocked i) (hs : (s.stream i).state ≠ .free) (hh : (s.stream i).state ≠ .halted) :
    (s.closing i p bs).blocked i := by
  obtain free | halted | full | waits := h
  · exact absurd free hs
  · exact absurd halted hh
  · refine .inr (.inr (.inl ?_)); rw [State.closing_stream_same]; exact full
  · refine .inr (.inr (.inr ?_)); rw [State.closing_stream_same]; exact waits

theorem State.closing_ready {p : Port} {g : Seg} {k : Nat} (h : s.pointReady i g k) :
    (s.closing i p bs).pointReady i g k := by
  obtain ⟨-, -, distinct, below, point, rest⟩ := h
  refine ⟨?_, ?_, ?_, ?_, ?_, rest⟩ <;> rw [State.closing_stream_same]
  · exact nofun
  · exact nofun
  · exact distinct
  · exact below
  · exact point

theorem Stream.closeRefusal_none {st : Stream} {p : Port} (hc : if p = .rp then st.cls = .reclaim else st.cls = .tenant)
    (ho : st.state = .idle ∨ st.state = .active ∨ st.state = .waitSupply) : st.closeRefusal p = none := by
  have mine := (wrongClass_iff p st.cls).mpr hc
  rcases ho with h | h | h <;> simp [Stream.closeRefusal, h, mine]

theorem closeStreamAct_accepted {p : Port} {stream : Half} (hw : s.working = true) (hi : stream.toNat ≤ 1023)
    (hc : if p = .rp then (s.stream stream.toNat).cls = .reclaim else (s.stream stream.toNat).cls = .tenant)
    (ho : (s.stream stream.toNat).state = .idle ∨ (s.stream stream.toNat).state = .active ∨
      (s.stream stream.toNat).state = .waitSupply) :
    closeStreamAct p stream s = ⟨.accepted, [], s.startClose stream.toNat p⟩ := by
  rw [closeStreamAct_eq p stream hw, if_neg hi.not_gt, Stream.closeRefusal_none hc ho]

/-- A close cannot complete while the stream has a chain or a batch in flight. -/
theorem State.closeTest_waits (h : (s.stream i).chain ≠ [] ∨ (s.stream i).inFlight ≠ 0) : s.closeTest i = s := by
  have not_ready : s.closeReady i = false := by
    rcases h with chain | flight
    · have chain := List.isEmpty_eq_false_iff.mpr chain
      simp [State.closeReady, chain]
    · simp [State.closeReady, flight]
  rw [State.closeTest, not_ready]
  exact if_neg Bool.false_ne_true

theorem State.chain_of_uncut (h : 1 ≤ s.uncut i) : (s.stream i).chain ≠ [] := fun empty => by
  simp [State.uncut, empty] at h

end

/-- Settles O23, by the drain's effect on the context and the bindings and the marking of the seal. -/
theorem closeStreamStartsToDrain : Obligations.CloseStreamStartsToDrain := by
  unfold Obligations.CloseStreamStartsToDrain
  intro v stream s hr hw i st hi hc ho drains
  let x := s.setLink v.port .taken
  obtain ⟨bs, start, bindings⟩ := State.startClose_spec s i v.port .taken
  let b := s.closing i v.port bs
  have accepted : requestAct (.closeStream v stream) x = ⟨.accepted, [], x.startClose i v.port⟩ :=
    closeStreamAct_accepted (s := x) hw hi hc ho
  have not_free : st.state ≠ .free := by rcases ho with h | h | h <;> rw [h] <;> decide
  have not_halted : st.state ≠ .halted := by rcases ho with h | h | h <;> rw [h] <;> decide
  have pending (some_uncut : 1 ≤ s.uncut i) : s.drainsTo (b.markPending i) i v.port .pending :=
    State.closing_markPending v.port bindings some_uncut
  refine ⟨fun none_uncut busy => ?_, fun some_uncut blocked => ?_, fun g k some_uncut few ready => ?_⟩
  · have idle : (b.withPorts x.ports).markAndTest i = b.withPorts x.ports :=
      State.markAndTest_none ((State.closing_uncut v.port).trans none_uncut)
    have stays : (b.withPorts x.ports).closeTest i = b.withPorts x.ports := by
      refine State.closeTest_waits ?_
      show (b.stream i).chain ≠ [] ∨ (b.stream i).inFlight ≠ 0
      rw [State.closing_stream_same]
      exact busy
    have start : x.startClose i v.port = b.withPorts x.ports := by
      rw [start, idle, stays]
    exact ⟨b, exec_kept hr (accepted.trans (congrArg _ start)) rfl rfl, State.closing_drainsTo v.port bindings⟩
  · have marked : (b.withPorts x.ports).markAndTest i = (b.markPending i).withPorts x.ports := by
      have some_left : b.uncut i ≠ 0 := by rw [State.closing_uncut]; exact Nat.one_le_iff_ne_zero.mp some_uncut
      rw [State.markAndTest, if_neg (show (b.withPorts x.ports).uncut i ≠ 0 from some_left), State.markPending_withPorts,
        State.test_blocked]
      exact (State.markPending_blocked b i i).mpr (State.closing_blocked v.port blocked not_free not_halted)
    have stays : ((b.markPending i).withPorts x.ports).closeTest i = (b.markPending i).withPorts x.ports := by
      refine State.closeTest_waits (.inl ?_)
      show ((b.markPending i).stream i).chain ≠ []
      rw [State.markPending_chain, State.closing_stream_same]
      exact State.chain_of_uncut some_uncut
    have start : x.startClose i v.port = (b.markPending i).withPorts x.ports := by
      rw [start, marked, stays]
    have queues : (b.markPending i).queues = s.queues := by rw [State.markPending_rest]; rfl
    have ports : (b.markPending i).ports = s.ports := by rw [State.markPending_rest]; rfl
    have next := exec_kept hr (accepted.trans (congrArg _ start)) queues rfl
    have own : ((b.markPending i).withPorts x.ports).withPorts s.ports = b.markPending i := State.withPorts_self ports
    rw [own] at next
    exact ⟨b.markPending i, next, pending some_uncut⟩
  · have left : b.uncut i = s.uncut i := State.closing_uncut v.port
    obtain ⟨cuts, ports⟩ := State.mark_rest (s := b.withPorts x.ports) (State.closing_ready ready)
      (some_uncut.trans left.ge) (left.le.trans few)
    have stays : ((b.withPorts x.ports).markAndTest i).closeTest i = (b.withPorts x.ports).markAndTest i := by
      refine State.closeTest_waits (.inl ?_)
      rw [cuts.chain, State.markPending_chain]
      show (b.stream i).chain ≠ []
      rw [State.closing_stream_same]
      exact State.chain_of_uncut some_uncut
    have start : x.startClose i v.port = (b.withPorts x.ports).markAndTest i := by
      rw [start, stays]
    rw [State.markPending_withPorts] at cuts
    obtain ⟨t, next, answer, delivers, cuts⟩ := exec_cuts hr (accepted.trans (congrArg _ start)) cuts.of_withPorts ports
    rw [show (b.withPorts x.ports).restParts i = s.restParts i from State.closing_restParts v.port] at cuts
    exact ⟨t, b.markPending i, next, answer, delivers, pending some_uncut, cuts⟩

/-! ### The completion of a close (R18 to R20) -/

/-- Stream i is FREE, off the WAIT-SUPPLY list, and its class and owner count one open stream less (R2, R19). -/
def State.withoutStream (s : State) (i : Nat) (cls : StreamClass) (owner : Nat) : State :=
  ((s.leaveSupply i).setStream i (Stream.freeOf cls owner)).countClosed cls owner

section
variable {s : State} {i : Nat}

theorem State.reaches_permitted {c : Instr} (h : s.reaches c = true) : permitted c.kind c.via.port = true := by
  simp only [State.reaches, Bool.and_eq_true] at h
  exact h.1.2

theorem State.completeClose_eq (s : State) (i : Nat) : s.completeClose i =
    (((s.leaveOwnSlotWait i).disposePoint i).withoutStream i (s.stream i).cls (s.stream i).owner).emitClosed i
      (s.stream i).cls (s.stream i).requester := rfl

theorem State.withoutStream_withPorts (s : State) (i : Nat) (cls : StreamClass) (owner : Nat) (ps : Ports) :
    (s.withPorts ps).withoutStream i cls owner = (s.withoutStream i cls owner).withPorts ps := by
  cases cls <;> rfl

theorem State.withoutStream_rest (s : State) (i : Nat) (cls : StreamClass) (owner : Nat) :
    s.withoutStream i cls owner = { s with
      streams := (s.withoutStream i cls owner).streams, functions := (s.withoutStream i cls owner).functions
      openReclaim := if cls = .tenant then s.openReclaim else s.openReclaim - 1
      waitSupply := s.waitSupply.filter (· ≠ i) } := by
  cases cls <;> rfl

theorem State.withoutStream_stream (s : State) (i : Nat) (cls : StreamClass) (owner n : Nat) :
    (s.withoutStream i cls owner).stream n = if n = i then Stream.freeOf cls owner else s.stream n := by
  cases cls <;> exact State.setStream_stream ..

theorem State.withoutStream_function (s : State) (i : Nat) (cls : StreamClass) (owner f : Nat) :
    (s.withoutStream i cls owner).function f = if cls = .tenant ∧ f = owner then
      { s.function f with openStreams := (s.function f).openStreams - 1 } else s.function f := by
  cases cls with
  | reclaim => simp only [reduceCtorEq, false_and, if_false]; rfl
  | tenant =>
    refine (State.setFunction_function ..).trans ?_
    by_cases h : f = owner
    · subst h; simp only [if_true, true_and]; rfl
    · simp only [h, if_false, and_false]; rfl

/-- STREAM CLOSED on the requester's port, which is not FP, and on FP for a TENANT stream (R20). -/
theorem State.Does.emitClosed {t base : State} {told : Port → List Event} (h : s.Does t base told) (i : Nat)
    (cls : StreamClass) {p : Port} (hp : p ≠ .fp) : s.Does (t.emitClosed i cls (some p)) base fun q =>
      told q ++ if q = p ∨ (q = .fp ∧ cls = .tenant) then [.streamClosed i] else [] := by
  cases cls with
  | reclaim =>
    have closed := h.emit p (.streamClosed i)
    exact closed.told_eq fun q => by simp
  | tenant =>
    have closed := (h.emit p (.streamClosed i)).emit .fp (.streamClosed i)
    refine closed.told_eq fun q => ?_
    by_cases hq : q = p
    · subst hq; simp [hp]
    · by_cases fp : q = .fp <;> simp [hq, fp, hp.symm]

/-- The completion of a close, from what becomes of the write point. -/
theorem State.completeClose_does {base : State} {disposal : Port → List Event} {p : Port}
    (h : s.Does ((s.leaveOwnSlotWait i).disposePoint i) base disposal) (hr : (s.stream i).requester = some p) (hp : p ≠ .fp) :
    s.Does (s.completeClose i) (base.withoutStream i (s.stream i).cls (s.stream i).owner) fun q =>
      disposal q ++ if q = p ∨ (q = .fp ∧ (s.stream i).cls = .tenant) then [.streamClosed i] else [] := by
  rw [State.completeClose_eq, hr]
  refine (h.map (fun x => x.withoutStream i (s.stream i).cls (s.stream i).owner)
    (fun x ps => State.withoutStream_withPorts x ..) fun x => ?_).emitClosed i _ hp
  rw [State.withoutStream_rest]

theorem State.disposePoint_none (h : (s.stream i).writePoint = none) : (s.leaveOwnSlotWait i).disposePoint i = s := by
  have stays : s.leaveOwnSlotWait i = s := by simp only [State.leaveOwnSlotWait, h]
  simp only [stays, State.disposePoint, h]

theorem State.closeReady_iff : s.closeReady i = true ↔ (s.stream i).state = .draining ∧ (s.stream i).chain = [] ∧
    (s.stream i).inFlight = 0 ∧ s.reportsOf i = false := by
  simp [State.closeReady, and_assoc]

theorem State.closeTest_ready (h : s.closeReady i = true) : s.closeTest i = s.completeClose i := if_pos h

end

/-- Settles O24, by the completion of the close in the step that accepted it. -/
theorem closeStreamCompletesAtOnce : Obligations.CloseStreamCompletesAtOnce := by
  unfold Obligations.CloseStreamCompletesAtOnce
  intro v stream s hr hw i st hi hc ho no_point no_chain no_flight no_report room
  let x := s.setLink v.port .taken
  obtain ⟨bs, start, bindings⟩ := State.startClose_spec s i v.port .taken
  let b := (s.closing i v.port bs).withPorts x.ports
  have accepted : requestAct (.closeStream v stream) x = ⟨.accepted, [], x.startClose i v.port⟩ :=
    closeStreamAct_accepted (s := x) hw hi hc (ho.imp_right .inr)
  have own : b.stream i = st.closing v.port := State.closing_stream_same v.port
  have none_uncut : b.uncut i = 0 := by
    refine (State.closing_uncut v.port).trans ?_
    rw [State.uncut, show ((s.withBindings bs).stream i).chain = [] from no_chain]
    rfl
  have ready : b.closeReady i = true := by
    rw [State.closeReady_iff, own]
    exact ⟨rfl, no_chain, no_flight, no_report⟩
  have start : x.startClose i v.port = b.completeClose i := by
    rw [start, State.markAndTest_none none_uncut, State.closeTest_ready ready]
  have not_fp : v.port ≠ .fp := fun fp => by
    have allowed := State.reaches_permitted hr
    rw [show (Instr.closeStream v stream).via.port = .fp from fp] at allowed
    exact Bool.false_ne_true allowed
  have disposed : (b.leaveOwnSlotWait i).disposePoint i = b := State.disposePoint_none (by rw [own]; exact no_point)
  have does := State.completeClose_does (s := b) (i := i) (p := v.port)
    (by rw [disposed]; exact State.Does.refl b) (by rw [own]; rfl) not_fp
  rw [own] at does
  obtain ⟨t, next, answer, delivers, rest⟩ := exec_answers hr (accepted.trans (congrArg _ start)) (does.after rfl)
  have closed : t = (b.withoutStream i st.cls st.owner).withPorts t.ports := rest
  have bindings' : t.bindings = bs := by rw [closed, State.withoutStream_rest]; rfl
  have reclaim : t.openReclaim = if st.cls = .tenant then s.openReclaim else s.openReclaim - 1 := by
    rw [closed, State.withoutStream_rest]; rfl
  have streams : t.streams = (b.withoutStream i st.cls st.owner).streams := by rw [closed]; rfl
  have functions : t.functions = (b.withoutStream i st.cls st.owner).functions := by rw [closed]; rfl
  refine ⟨t, next, answer, ?_, fun n => ?_, fun f k hk => ?_, fun f => ?_, reclaim, ?_⟩
  · rw [streams, functions, bindings', reclaim]
    conv_lhs => rw [closed, State.withoutStream_rest]
    rfl
  · have stream := State.withoutStream_stream b i st.cls st.owner n
    rw [State.stream, streams]
    refine stream.trans ?_
    by_cases hn : n = i
    · rw [if_pos hn, if_pos hn]
    · rw [if_neg hn, if_neg hn]
      exact (State.closing_stream v.port n).trans (if_neg hn)
  · rw [State.binding, bindings']
    exact bindings f k hk
  · rw [State.function, functions]
    exact State.withoutStream_function b i st.cls st.owner f
  · refine (delivers.congr fun q => List.nil_append _).tells_of_roomFor room fun q => ?_
    split <;> simp

end Sys2Proof.Machine
end

section
/-! The settlement of O35: a TENANT write that is admitted (R35, R37), with no cut due, with a pressure seal, and with a
cut of the unit it completes. -/

namespace Sys2Proof.Machine

/-! ### The admission (R35) -/

/-- The state after the budget, the record and the chain of a TENANT write, its stream's seal being `sl`. -/
def State.admits (s : State) (f k r : Nat) (w : Write) (sl : Seal) : State :=
  (s.takeBudget f w.n).chained k r (w.record k (.tenant f (s.function f).serial) s.tick) sl

/-- The seal that the timeout of function f gives a sector admitted now. -/
def State.tenantSeal (s : State) (f : Nat) : Seal :=
  if (s.function f).timeout = 0 then .disarmed else .armed (s.tick + BitVec.ofNat 32 (s.function f).timeout)

theorem State.tenantSeal_ne_pending (s : State) (f : Nat) : s.tenantSeal f ≠ .pending := by
  unfold State.tenantSeal; split <;> nofun

/-- What the checks of a SUBMIT on FP have found of stream k and function f. -/
structure State.takes (s : State) (f k r : Nat) (w : Write) : Prop where
  not_free : (s.stream k).state ≠ .free
  not_halted : (s.stream k).state ≠ .halted
  not_draining : (s.stream k).state ≠ .draining
  run : s.device = .run
  enabled : (s.function f).state = .enabled
  no_flush : (s.function f).flush = .none
  timeout : (s.function f).timeout ≤ 2000
  owner : (s.stream k).owner = f
  cls : (s.stream k).cls = .tenant
  fresh : r ∉ (s.stream k).chain
  sectors : 1 ≤ w.n

section
variable {s : State} {f k r : Nat} {w : Write} {sl : Seal}

theorem State.admits_withPorts (ps : Ports) : (s.withPorts ps).admits f k r w sl = (s.admits f k r w sl).withPorts ps := rfl

theorem State.takeBudget_function : (s.takeBudget f w.n).function f = { s.function f with
    held := (s.function f).held + w.n, serial := (s.function f).serial + 1, outstanding := (s.function f).outstanding + 1 } :=
  State.setFunction_function_same ..

theorem State.admits_stream : (s.admits f k r w sl).stream k =
    { s.stream k with chain := (s.stream k).chain ++ [r], sealing := sl } := State.setStream_stream_same ..

theorem State.admits_record (x : Nat) : (s.admits f k r w sl).record x =
    if x = r then w.record k (.tenant f (s.function f).serial) s.tick else s.record x := State.chained_record x

theorem State.admits_uncut (h : r ∉ (s.stream k).chain) : (s.admits f k r w sl).uncut k = s.uncut k + w.n :=
  State.chained_uncut (s := s.takeBudget f w.n) h

theorem State.admits_control : (s.admits f k r w sl).control = s.control := rfl

theorem State.admits_total : (s.admits f k r w sl).budget.total = s.budget.total + w.n := rfl

theorem State.takes.calm (h : s.takes f k r w) : (s.takeBudget f w.n).calm k := by
  refine ⟨h.not_draining, ?_, fun _ => ?_⟩
  · show s.device ≠ .drain
    rw [h.run]; decide
  · have own : ((s.takeBudget f w.n).stream k).owner = f := h.owner
    rw [own, State.takeBudget_function]
    exact ⟨by rw [h.enabled]; decide, h.no_flush⟩

theorem State.takes.sealTimeout (h : s.takes f k r w) : (s.takeBudget f w.n).sealTimeout k = (s.function f).timeout := by
  have cls : ((s.takeBudget f w.n).stream k).cls = .tenant := h.cls
  have own : ((s.takeBudget f w.n).stream k).owner = f := h.owner
  simp only [State.sealTimeout, cls, own, State.takeBudget_function]

theorem State.takes.freshSeal (h : s.takes f k r w) : (s.takeBudget f w.n).freshSeal k = s.tenantSeal f := by
  rw [State.freshSeal, h.sealTimeout]; rfl

/-- The seal as the record joins: armed if the stream had no uncut sector (R66). -/
def State.joinSeal (s : State) (f k : Nat) : Seal := if s.uncut k = 0 then s.tenantSeal f else (s.stream k).sealing

theorem State.admitTenant_eq (h : s.takes f k r w) :
    s.admitTenant f k r w = ((s.admits f k r w (s.joinSeal f k)).test k).pressureSeal := by
  have joined := State.joinChain_eq (s := s.takeBudget f w.n) (i := k) (r := r)
    (rec := w.record k (.tenant f (s.function f).serial) s.tick) h.not_free h.fresh h.calm h.sectors rfl
    (h.sealTimeout.trans_le h.timeout)
  rw [State.admitTenant, joined, h.freshSeal]
  rfl

/-- With no cut due, the admission itself tests nothing more. -/
theorem State.admits_test (h : s.takes f k r w) (few : s.uncut k + w.n < s.geo.sectors)
    (hs : 1 ≤ s.uncut k → (s.stream k).sealing ≠ .pending) :
    (s.admits f k r w (s.joinSeal f k)).test k = s.admits f k r w (s.joinSeal f k) := by
  refine State.test_idle ?_
  have not_pending : s.joinSeal f k ≠ .pending := by
    unfold State.joinSeal
    split
    · exact State.tenantSeal_ne_pending s f
    · rename_i some_uncut; exact hs (Nat.one_le_iff_ne_zero.mpr some_uncut)
  have geo : (s.admits f k r w (s.joinSeal f k)).geo = s.geo := rfl
  simp only [State.cutDue, State.admits_stream, State.admits_uncut h.fresh, geo, not_pending, not_le.mpr few, decide_false,
    Bool.or_self, Bool.and_false, Bool.false_and]

/-! ### The pressure seal (R37) -/

theorem State.pressureSeal_quiet (h : s.limits.highWater = 0 ∨ s.budget.total < s.limits.highWater) : s.pressureSeal = s := by
  refine if_neg ?_
  rw [Bool.and_eq_true, decide_eq_true_eq, decide_eq_true_eq]
  omega

theorem State.pressureSeal_eq (h : ¬ (s.limits.highWater = 0 ∨ s.budget.total < s.limits.highWater)) :
    s.pressureSeal = match s.pressureStream with
      | some i => s.markAndTest i
      | none => s := by
  refine if_pos ?_
  rw [Bool.and_eq_true, decide_eq_true_eq, decide_eq_true_eq]
  omega

/-- The stream named is a candidate, so it has uncut sectors. -/
theorem State.pressureStream_uncut {j : Nat} (h : s.pressureStream = some j) : 1 ≤ s.uncut j := by
  have named : ∀ b, s.pressureStream = some b → s.pressureCandidate b = true := by
    refine List.foldlRecOn (motive := fun best => ∀ b, best = some b → s.pressureCandidate b = true) _ _ nofun
      fun best hbest i _ b hb => ?_
    unfold State.olderCandidate at hb
    by_cases candidate : s.pressureCandidate i = true
    · rw [if_pos candidate] at hb
      cases best with
      | none => obtain rfl := Option.some.inj hb; exact candidate
      | some b' =>
        dsimp only at hb
        by_cases older : s.uncutAge b' < s.uncutAge i
        · rw [if_pos older] at hb; obtain rfl := Option.some.inj hb; exact candidate
        · rw [if_neg older] at hb; exact hbest b hb
    · rw [if_neg candidate] at hb; exact hbest b hb
  have candidate := named j h
  simp only [State.pressureCandidate, Bool.and_eq_true, decide_eq_true_eq] at candidate
  exact candidate.1.2

/-! ### The cut of the unit that a write completes (R57, R60, R66) -/

theorem State.rests_congr {t : State} {rs : List Nat} (h : ∀ x ∈ rs, t.record x = s.record x) : t.rests rs = s.rests rs := by
  induction rs with
  | nil => rfl
  | cons x rs ih =>
    rw [State.rests_cons, State.rests_cons, h x List.mem_cons_self, ih fun y hy => h y (List.mem_cons_of_mem _ hy)]

/-- What the cut takes: all that was uncut, and the new record's sectors up to a unit. -/
theorem State.admits_takeFrom (h : r ∉ (s.stream k).chain) (below : s.uncut k < s.geo.sectors)
    (unit : s.geo.sectors ≤ s.uncut k + w.n) :
    (s.admits f k r w sl).takeFrom ((s.admits f k r w sl).stream k).chain
      (min (s.admits f k r w sl).geo.sectors ((s.admits f k r w sl).uncut k)) =
      s.restParts k ++ [(r, s.geo.sectors - s.uncut k)] := by
  have kept : ∀ x ∈ (s.stream k).chain, (s.admits f k r w sl).record x = s.record x := fun x hx => by
    rw [State.admits_record, if_neg]
    rintro rfl
    exact h hx
  have geo : (s.admits f k r w sl).geo = s.geo := rfl
  have sum : ((s.stream k).chain.map fun x => ((s.admits f k r w sl).record x).uncut).sum = s.uncut k := by
    rw [State.uncut, List.map_congr_left fun x hx => by rw [kept x hx]]
  have joined : ((s.admits f k r w sl).record r).uncut = w.n := by rw [State.admits_record, if_pos rfl]; rfl
  have need : min w.n (s.geo.sectors - s.uncut k) = s.geo.sectors - s.uncut k := by omega
  have some_left : s.geo.sectors - s.uncut k ≠ 0 := by omega
  rw [State.admits_stream, geo, State.admits_uncut h, Nat.min_eq_left unit, State.takeFrom_append _ _ _ (sum.trans_le below.le),
    sum, State.rests_congr kept]
  simp only [State.takeFrom, joined, need, some_left, if_false]
  rfl

/-- The parts of that cut. -/
def State.unitParts (s : State) (k r : Nat) : List (Nat × Nat) := s.restParts k ++ [(r, s.geo.sectors - s.uncut k)]

theorem State.unitParts_sum (below : s.uncut k < s.geo.sectors) : ((s.unitParts k r).map Prod.snd).sum = s.geo.sectors := by
  have rest : ((s.restParts k).map Prod.snd).sum = s.uncut k := State.rests_sum _
  simp only [State.unitParts, List.map_append, List.sum_append, rest, List.map_cons, List.map_nil, List.sum_cons, List.sum_nil]
  omega

theorem State.takenOf_unitParts (h : r ∉ (s.stream k).chain) (distinct : (s.stream k).chain.Nodup) (x : Nat) :
    takenOf (s.unitParts k r) x = if x = r then s.geo.sectors - s.uncut k
      else if x ∈ (s.stream k).chain then (s.record x).uncut else 0 := by
  have rest : takenOf (s.restParts k) x = if x ∈ (s.stream k).chain then (s.record x).uncut else 0 :=
    State.takenOf_rests _ distinct x
  rw [State.unitParts, takenOf_append, rest]
  by_cases hx : x = r
  · subst hx; simp [h, takenOf]
  · simp [hx, takenOf, Ne.symm hx]

theorem State.takes.pointReady {g : Seg} {slot : Nat} (h : s.takes f k r w) (ready : s.pointReady k g slot) :
    (s.admits f k r w sl).pointReady k g slot := by
  obtain ⟨not_free, not_halted, distinct, below, point, rest⟩ := ready
  refine ⟨?_, ?_, ?_, ?_, ?_, rest⟩ <;> rw [State.admits_stream]
  · exact not_free
  · exact not_halted
  · exact List.nodup_append.mpr ⟨distinct, List.nodup_singleton r, fun x hx y hy same => h.fresh (by
      rw [← List.mem_singleton.mp hy, ← same]; exact hx)⟩
  · exact below
  · exact point

section
variable {t : State} {g : Seg} {slot : Nat} {sealing : Seal}

/-- After the cut of that unit, only the new record has uncut sectors. -/
theorem State.cuts.record_of_unit (cuts : (s.admits f k r w sl).cuts t k g slot (s.unitParts k r) sealing)
    (h : r ∉ (s.stream k).chain) (distinct : (s.stream k).chain.Nodup) :
    (t.record r).uncut = w.n - (s.geo.sectors - s.uncut k) ∧ ∀ x ∈ (s.stream k).chain, (t.record x).uncut = 0 := by
  refine ⟨?_, fun x hx => ?_⟩
  · rw [cuts.record_uncut, State.takenOf_unitParts h distinct, if_pos rfl, State.admits_record, if_pos rfl]; rfl
  · have other : x ≠ r := by rintro rfl; exact h hx
    rw [cuts.record_uncut, State.takenOf_unitParts h distinct, if_neg other, if_pos hx, State.admits_record, if_neg other,
      Nat.sub_self]

theorem State.cuts.uncut_of_unit (cuts : (s.admits f k r w sl).cuts t k g slot (s.unitParts k r) sealing)
    (h : r ∉ (s.stream k).chain) (distinct : (s.stream k).chain.Nodup) (below : s.uncut k < s.geo.sectors) :
    t.uncut k = s.uncut k + w.n - s.geo.sectors := by
  obtain ⟨own, others⟩ := cuts.record_of_unit h distinct
  have zero : ((s.stream k).chain.map fun x => (t.record x).uncut).sum = 0 := by
    refine List.sum_eq_zero fun y hy => ?_
    obtain ⟨x, hx, rfl⟩ := List.mem_map.mp hy
    exact others x hx
  rw [State.uncut, cuts.chain, State.admits_stream]
  simp only [List.map_append, List.sum_append, zero, List.map_cons, List.map_nil, List.sum_cons, List.sum_nil, own]
  omega

theorem State.cuts.control {parts : List (Nat × Nat)} (h : s.cuts t k g slot parts sealing) : t.control = s.control := by
  rw [h.1]; rfl

theorem State.cuts.functions {parts : List (Nat × Nat)} (h : s.cuts t k g slot parts sealing) : t.functions = s.functions := by
  rw [h.1]; rfl

theorem State.cuts.budget {parts : List (Nat × Nat)} (h : s.cuts t k g slot parts sealing) : t.budget = s.budget := by
  rw [h.1]; rfl

theorem State.cuts.function {parts : List (Nat × Nat)} (h : s.cuts t k g slot parts sealing) (f : Nat) :
    t.function f = s.function f := congrArg (Table.read Function.powerOn · f) h.functions

theorem State.admits_function : (s.admits f k r w sl).function f = (s.takeBudget f w.n).function f := rfl

/-- The seal of what is left: the new record's, by the timeout of its function (R65, R66). -/
theorem State.cuts.sealFor_of_unit (cuts : (s.admits f k r w sl).cuts t k g slot (s.unitParts k r) sealing)
    (h : s.takes f k r w) (distinct : (s.stream k).chain.Nodup) (below : s.uncut k < s.geo.sectors)
    (unit : s.geo.sectors ≤ s.uncut k + w.n) :
    t.sealFor k = if s.uncut k + w.n = s.geo.sectors then .disarmed else s.tenantSeal f := by
  by_cases whole : s.uncut k + w.n = s.geo.sectors
  · rw [if_pos whole, State.sealFor_none]
    rw [cuts.uncut_of_unit h.fresh distinct below]
    omega
  · obtain ⟨own, others⟩ := cuts.record_of_unit h.fresh distinct
    have stream := cuts.stream_self
    have tick : t.tick = s.tick := congrArg Control.tick cuts.control
    have oldest : t.cutRecord k = some r := by
      rw [State.cutRecord, cuts.chain, State.admits_stream, List.find?_append, List.find?_eq_none.mpr]
      · have some_left : (t.record r).placed < (t.record r).stop := by
          by_contra none_left
          have zero := (Fragment.uncut_eq_zero _).mpr none_left
          omega
        simp [some_left]
      · intro x hx
        simpa using (Fragment.uncut_eq_zero _).mp (others x hx)
    have admitted : (t.record r).admitted = t.tick := by
      rw [cuts.record, State.admits_record, if_pos rfl, tick]; rfl
    have owner : (t.stream k).owner = f := by rw [stream, State.admits_stream]; exact h.owner
    have cls : (t.stream k).cls = .tenant := by rw [stream, State.admits_stream]; exact h.cls
    have function : t.function f = (s.takeBudget f w.n).function f := cuts.function f
    have calm : t.calm k := by
      refine ⟨?_, ?_, fun _ => ?_⟩
      · rw [stream, Stream.withBatch, State.admits_stream]
        split
        · exact nofun
        · exact h.not_draining
      · rw [State.device, cuts.control]
        exact h.calm.2.1
      · rw [owner, function, State.takeBudget_function]
        exact ⟨by rw [h.enabled]; decide, h.no_flush⟩
    have timeout : t.sealTimeout k = (s.function f).timeout := by
      simp only [State.sealTimeout, cls, owner, function, State.takeBudget_function]
    rw [if_neg whole, State.sealFor_fresh oldest admitted (calm.standing r) (timeout.trans_le h.timeout), State.freshSeal,
      timeout, tick]
    rfl

end

/-- The admission of a write that completes a unit: the stream cuts it, and nothing more is due. -/
theorem State.admits_cut {g : Seg} {slot : Nat} (h : s.takes f k r w) (ready : s.pointReady k g slot)
    (below : s.uncut k < s.geo.sectors) (unit : s.geo.sectors ≤ s.uncut k + w.n)
    (twice : s.uncut k + w.n < 2 * s.geo.sectors) :
    (s.admits f k r w (s.tenantSeal f)).cuts ((s.admits f k r w sl).test k) k g slot (s.unitParts k r)
        (if s.uncut k + w.n = s.geo.sectors then .disarmed else s.tenantSeal f) ∧
      ((s.admits f k r w sl).test k).ports = s.ports := by
  have geo : (s.admits f k r w sl).geo = s.geo := rfl
  have uncut : (s.admits f k r w sl).uncut k = s.uncut k + w.n := State.admits_uncut h.fresh
  have ready' := h.pointReady (sl := sl) ready
  obtain ⟨cuts, ports⟩ := State.cut_cuts ready' (State.admits_takeFrom h.fresh below unit)
    ((State.unitParts_sum below).trans (by rw [geo, uncut, Nat.min_eq_left unit]))
  have distinct := ready.2.2.1
  have left := State.cuts.uncut_of_unit cuts h.fresh distinct below
  rw [State.cuts.sealFor_of_unit cuts h distinct below unit] at cuts
  have due : (s.admits f k r w sl).cutDue k = true := by
    refine State.cutDue_of_unit State.admits_stream h.not_free h.not_halted ?_ ?_ ready.2.2.2.1
    · rw [uncut]; exact Nat.le_add_left_of_le h.sectors
    · rw [uncut]; exact unit
  have ended : ((s.admits f k r w sl).cut k g).cutDue k = false := by
    by_cases whole : s.uncut k + w.n = s.geo.sectors
    · exact State.cutDue_none (by rw [left]; omega)
    · have few : ¬ s.geo.sectors ≤ s.uncut k + w.n - s.geo.sectors := by omega
      have same : ((s.admits f k r w sl).cut k g).geo = s.geo := by rw [State.geo, cuts.control]; rfl
      have sealing : (((s.admits f k r w sl).cut k g).stream k).sealing ≠ .pending := by
        rw [cuts.stream_self, if_neg whole]
        exact State.tenantSeal_ne_pending s f
      simp only [State.cutDue, left, same, few, sealing, decide_false, Bool.or_self, Bool.and_false, Bool.false_and]
  rw [State.test_once ready' due ended]
  refine ⟨State.cuts.of_sealed (before := sl) ?_ ?_, ports⟩
  · rw [State.admits_stream]; exact h.not_free
  · have resealed : (s.admits f k r w (s.tenantSeal f)).setStream k
        { (s.admits f k r w (s.tenantSeal f)).stream k with sealing := sl } = s.admits f k r w sl := by
      rw [State.admits_stream]
      exact State.setStream_setStream _ k _ h.not_free
    rw [resealed]
    exact cuts

end

theorem State.markPending_eq {s : State} {j : Nat} (h : 1 ≤ s.uncut j) :
    s.markPending j = s.setStream j { s.stream j with sealing := .pending } := if_neg (Nat.one_le_iff_ne_zero.mp h)

/-- A stream that can make no cut is marked and stands so. -/
theorem State.mark_blocked {s : State} {j : Nat} (ps : Ports) (h : s.blocked j) (some_uncut : 1 ≤ s.uncut j) :
    (s.withPorts ps).markAndTest j = (s.setStream j { s.stream j with sealing := .pending }).withPorts ps := by
  have some_left : (s.withPorts ps).uncut j ≠ 0 := Nat.one_le_iff_ne_zero.mp some_uncut
  rw [State.markAndTest, if_neg some_left, State.markPending_withPorts, State.test_blocked, State.markPending_eq some_uncut]
  exact (State.markPending_blocked s j j).mpr h

/-! ### The settlement -/

theorem submitAct_admits {s : State} {p : Port} {fn hint : Byte} {stream : Half} {tag : Word} {lba : Lba} {region : Byte}
    {offset : Word} {n : Byte} {k r : Nat} (hd : s.device = .run)
    (inRange : submitOutOfRange p hint stream lba region offset n = false) (hp : p = .fp)
    (he : (s.function fn.toNat).state = .enabled) (hb : s.binding fn.toNat hint.toNat = some k)
    (ho : (s.stream k).state = .idle ∨ (s.stream k).state = .active ∨ (s.stream k).state = .waitSupply)
    (hi : (s.stream k).intake = .accept) (hr : s.recordFor .tenant = some r)
    (fits : s.budgetTest fn.toNat n.toNat = true) : submitAct p fn hint stream tag lba region offset n s =
      ⟨.admitted, admittedPayload k (s.function fn.toNat).serial,
        s.admitTenant fn.toNat k r ⟨tag, lba, region, offset, n.toNat⟩⟩ := by
  have accepted : (s.stream k).intakeRefusal = none := (Stream.intakeRefusal_open ho).trans (if_neg (by simp [hi]))
  rw [submitAct_inRange hd inRange, if_neg (by rw [hp]; decide), State.submitTenant_bound he hb, accepted]
  exact State.submitTo_admits (w := ⟨tag, lba, region, offset, n.toNat⟩) hr fits

/-- Settles O35, by the admission with no cut due, with a pressure seal, and with the cut of a unit. -/
theorem submitAdmitsATenantWrite : Obligations.SubmitAdmitsATenantWrite := by
  unfold Obligations.SubmitAdmitsATenantWrite
  intro v fn hint stream tag lba region offset n s k r hr hd inRange hp i f fr st m fresh admitted response quiet he hflush
    htimeout hb ho hi hc hown hroom hr' hfree hlow hnew hcap hbudget
  let x := s.setLink v.port .taken
  let w : Write := ⟨tag, lba, region, offset, m⟩
  have fits : x.budgetTest f m = true := by
    have spare : max 0 ((fr.reserve : Int) - fr.held) = ((fr.reserve - fr.held : Nat) : Int) := by omega
    refine State.budgetTest_iff.mpr ?_
    show (m : Int) ≤ min ((fr.cap : Int) - fr.held) ((s.limits.holdUp : Int) - s.budget.total - s.budget.unused +
      max 0 ((fr.reserve : Int) - fr.held))
    rw [spare]
    omega
  have record : x.recordFor .tenant = some r :=
    (State.recordFor_tenant_room hroom).trans (State.freeRecordNumber_some hr' hfree hlow)
  have act : requestAct i x = ⟨.admitted, response, x.admitTenant f k r w⟩ :=
    submitAct_admits (s := x) hd inRange hp he hb ho hi record fits
  have sectors : 1 ≤ m := by
    have in_range := mt submitOutOfRange_iff.mpr (Bool.eq_false_iff.mp inRange)
    omega
  have takes : s.takes f k r w :=
    { not_free := by rcases ho with h | h | h <;> rw [h] <;> decide
      not_halted := by rcases ho with h | h | h <;> rw [h] <;> decide
      not_draining := by rcases ho with h | h | h <;> rw [h] <;> decide
      run := hd, enabled := he, no_flush := hflush, timeout := htimeout, owner := hown, cls := hc, fresh := hnew
      sectors := sectors }
  have takes' : x.takes f k r w := ⟨takes.1, takes.2, takes.3, hd, he, hflush, htimeout, hown, hc, hnew, sectors⟩
  have admission := State.admitTenant_eq takes'
  refine ⟨fun few not_pending => ?_, fun below unit twice calm g slot ready => ?_⟩
  · let t := s.admits f k r w (s.joinSeal f k)
    have whole : x.admitTenant f k r w = (t.withPorts x.ports).pressureSeal := by
      rw [admission, State.admits_test takes' few not_pending]
      rfl
    have answered (stays : (t.withPorts x.ports).pressureSeal = t.withPorts x.ports) :
        exec i s = .next (t.answered i .admitted response) :=
      exec_quiet (u := t) hr (act.trans (congrArg _ (whole.trans stays))) rfl rfl
    refine ⟨fun calm => answered (State.pressureSeal_quiet calm), fun high none_named => answered ?_, fun high j hj => ?_⟩
    next =>
      have none_named : (t.withPorts x.ports).pressureStream = none := none_named
      rw [State.pressureSeal_eq high, none_named]
    have some_uncut : 1 ≤ t.uncut j := State.pressureStream_uncut hj
    have pressed : (t.withPorts x.ports).pressureSeal = (t.withPorts x.ports).markAndTest j := by
      have hj : (t.withPorts x.ports).pressureStream = some j := hj
      rw [State.pressureSeal_eq high, hj]
    refine ⟨fun blocked => ?_, fun g slot ready few => ?_⟩
    · have marks := State.mark_blocked (s := t) x.ports blocked some_uncut
      refine exec_quiet hr (act.trans (congrArg _ ((whole.trans pressed).trans marks))) rfl rfl
    · obtain ⟨cuts, ports⟩ := State.mark_rest (s := t.withPorts x.ports) ready some_uncut few
      rw [State.markPending_withPorts, State.markPending_eq some_uncut] at cuts
      exact exec_cuts hr (act.trans (congrArg _ (whole.trans pressed))) cuts.of_withPorts ports
  · obtain ⟨cuts, ports⟩ := State.admits_cut (sl := x.joinSeal f k) takes' ready below unit twice
    have stays : ((x.admits f k r w (x.joinSeal f k)).test k).pressureSeal = (x.admits f k r w (x.joinSeal f k)).test k := by
      refine State.pressureSeal_quiet ?_
      rw [State.limits, cuts.control, cuts.budget]
      exact calm
    have whole := act.trans (congrArg _ (admission.trans stays))
    generalize (x.admits f k r w (x.joinSeal f k)).test k = u at cuts ports whole
    have base : x.admits f k r w (x.tenantSeal f) = (admitted fresh).withPorts x.ports := rfl
    have parts : x.unitParts k r = s.restParts k ++ [(r, s.geo.sectors - s.uncut k)] := rfl
    have sealing : x.tenantSeal f = fresh := rfl
    rw [base, parts, sealing] at cuts
    exact exec_cuts hr whole cuts.of_withPorts ports

end Sys2Proof.Machine
end

section
/-! The settlement of O60: the slot arbiter (R59) and the WAIT-SUPPLY arbiter (R85, R78 to R80). -/

namespace Sys2Proof.Machine

/-! ### The slot arbiter (R59) -/

section
variable {s : State} {d : Nat}

theorem State.grantSlots_stops (fuel : Nat) (h : (s.die d).slotWait = [] ∨ s.limits.dieInFlight ≤ (s.die d).inFlight) :
    State.grantSlots fuel s d = s := by
  cases fuel with
  | zero => rfl
  | succ fuel =>
    cases hw : (s.die d).slotWait with
    | nil => simp only [State.grantSlots, hw]
    | cons i rest =>
      have full := h.resolve_left (by rw [hw]; exact nofun)
      simp only [State.grantSlots, hw, not_lt.mpr full, if_false]

theorem State.slotArbiter_stops (h : (s.die d).slotWait = [] ∨ s.limits.dieInFlight ≤ (s.die d).inFlight) :
    s.slotArbiter d = s := State.grantSlots_stops _ h

/-- The head of the list is taken off it. -/
def State.headGranted (s : State) (d : Nat) (rest : List Nat) : State := s.setDie d { s.die d with slotWait := rest }

theorem State.slotArbiter_grants {i : Nat} {rest : List Nat} (hw : (s.die d).slotWait = i :: rest)
    (room : (s.die d).inFlight < s.limits.dieInFlight) :
    s.slotArbiter d = State.grantSlots rest.length ((s.headGranted d rest).test i) d := by
  simp only [State.slotArbiter, hw, List.length_cons, State.grantSlots, room, if_true]
  rfl

theorem State.headGranted_die (rest : List Nat) : (s.headGranted d rest).die d = { s.die d with slotWait := rest } :=
  State.setDie_die_same ..

theorem State.headGranted_ready {i b k : Nat} {rest : List Nat} (h : s.pointReady i ⟨d, b⟩ k) :
    (s.headGranted d rest).pointReady i ⟨d, b⟩ k := by
  obtain ⟨not_free, not_halted, distinct, below, point, room, others⟩ := h
  refine ⟨not_free, not_halted, distinct, below, point, ?_, others⟩
  rw [State.headGranted_die]
  exact room

theorem State.cuts.die_self {t : State} {i k : Nat} {g : Seg} {parts : List (Nat × Nat)} {sealing : Seal}
    (h : s.cuts t i g k parts sealing) : t.die g.die =
      (s.die g.die).withBatch (decide (s.geo.units ≤ (s.segment g).nextUnit + 1)) := by
  rw [h.1]
  exact State.setDie_die_same ..

/-! ### The WAIT-SUPPLY arbiter (R85) -/

theorem State.mem_dieOrder (hd : d < s.geo.dies) : d ∈ s.dieOrder := by
  have positive : 0 < s.geo.dies := Nat.zero_lt_of_lt hd
  have start := Nat.mod_lt (s.rotation + 1) positive
  rw [State.dieOrder, List.mem_map]
  have reaches (k m : Nat) (hk : (s.rotation + 1) % s.geo.dies + k = d + m * s.geo.dies) :
      (s.rotation + 1 + k) % s.geo.dies = d := by
    rw [← Nat.mod_add_mod, hk, Nat.add_mul_mod_self_right, Nat.mod_eq_of_lt hd]
  by_cases before : (s.rotation + 1) % s.geo.dies ≤ d
  · exact ⟨d - (s.rotation + 1) % s.geo.dies, List.mem_range.mpr (by omega), reaches _ 0 (by omega)⟩
  · exact ⟨s.geo.dies + d - (s.rotation + 1) % s.geo.dies, List.mem_range.mpr (by omega), reaches _ 1 (by omega)⟩

/-- With one eligible die, that die is chosen (R79). -/
theorem State.chooseDie_only {mask : DieMask} (h : ∀ x, s.eligible mask x = true ↔ x = d) : s.chooseDie mask = some d := by
  have walk (ds : List Nat) (best : Option Nat) (hb : best = none ∨ best = some d) :
      ds.foldl (s.betterDie mask) best = if d ∈ ds then some d else best := by
    induction ds generalizing best with
    | nil => rfl
    | cons x ds ih =>
      rw [List.foldl_cons]
      by_cases hx : x = d
      · subst hx
        have better : s.betterDie mask best x = some x := by
          unfold State.betterDie
          rw [if_pos ((h x).mpr rfl)]
          rcases hb with rfl | rfl
          · rfl
          · exact if_neg (lt_irrefl _)
        rw [better, ih _ (.inr rfl)]
        simp
      · have better : s.betterDie mask best x = best := if_neg fun eligible => hx ((h x).mp eligible)
        rw [better, ih _ hb]
        simp [Ne.symm hx]
  have present : d < s.geo.dies := by
    have eligible := (h d).mpr rfl
    simp only [State.eligible, Bool.and_eq_true, decide_eq_true_eq] at eligible
    exact eligible.1.1.2
  rw [State.chooseDie, walk _ none (.inl rfl), if_pos (State.mem_dieOrder present)]

/-- A die with free segments enough, or already reported, reports nothing (R81). -/
theorem State.reportSupplyLow_quiet (h : s.limits.lowWater ≤ (s.die d).freeQueue.length ∨ (s.die d).supplyLow = true) :
    s.reportSupplyLow d = s := by
  refine if_neg ?_
  rw [Bool.and_eq_true, decide_eq_true_eq]
  rintro ⟨low, unmarked⟩
  rcases h with enough | marked
  · exact absurd low (not_lt.mpr enough)
  · rw [marked] at unmarked; cases unmarked

theorem State.waiterFor_some {i : Nat} {ahead behind : List Nat} (hw : s.waitSupply = ahead ++ i :: behind)
    (hahead : ∀ n ∈ ahead, (s.stream n).mask.getLsbD d = false) (hi : (s.stream i).mask.getLsbD d = true) :
    s.waiterFor d = some i := by
  have none_ahead : ahead.find? (fun n => (s.stream n).mask.getLsbD d) = none :=
    List.find?_eq_none.mpr fun n hn => by rw [hahead n hn]; decide
  rw [State.waiterFor, hw, List.find?_append, none_ahead, List.find?_cons, hi]
  rfl

theorem State.serveSupply_idle (fuel : Nat) (h : (s.die d).assigned = none ∨ (s.die d).freeQueue = [] ∨
    ∀ n ∈ s.waitSupply, (s.stream n).mask.getLsbD d = false) : State.serveSupply fuel s d = s := by
  cases fuel with
  | zero => rfl
  | succ fuel =>
    rw [State.serveSupply]
    rcases h with h | h | h
    · rw [if_neg (by simp [h])]
    · rw [if_neg (by simp [h])]
    · rw [State.waiterFor_none h]
      split <;> rfl

/-- A stream whose write point's die is at its limit joins that die's slot wait list (R59). -/
theorem State.test_joinSlotWait {i : Nat} {g : Seg} (due : s.cutDue i = true) (point : (s.stream i).writePoint = some g)
    (full : s.limits.dieInFlight ≤ (s.die g.die).inFlight) : s.test i = s.joinSlotWait g.die i := by
  refine State.test_of_pass due ?_
  simp only [State.testPass, point, not_lt.mpr full, if_false]

theorem StreamState.gainPoint_of_waiting {st : StreamState} (h : st = .waitSupply ∨ st = .draining) :
    st.gainPoint = if st = .waitSupply then .active else st := by
  rcases h with rfl | rfl <;> rfl

/-- The state a served stream has its segment in, on the slot wait list of the die at its limit. -/
def State.served (s : State) (i d b : Nat) (rest waiting : List Nat) : State :=
  ((({ s with waitSupply := waiting, rotation := d } : State).setDie d { s.die d with
      freeQueue := rest, openPoints := (s.die d).openPoints + 1, slotWait := (s.die d).slotWait ++ [i] }).setSegment ⟨d, b⟩
    { Segment.powerOn with state := .opened, owner := some i, cls := (s.stream i).cls.segment }).setStream i
    { s.stream i with writePoint := some ⟨d, b⟩
                      state := if (s.stream i).state = .waitSupply then .active else (s.stream i).state }

/-- The oldest waiting stream that the die's segments suit opens the segment, and joins the list of the die at its limit. -/
theorem State.supplyArbiter_serves {i b : Nat} {rest ahead behind : List Nat} (hw : s.waitSupply = ahead ++ i :: behind)
    (fresh : i ∉ ahead) (fresh' : i ∉ behind) (hahead : ∀ n ∈ ahead, (s.stream n).mask.getLsbD d = false)
    (hrest : rest = [] ∨ ∀ n ∈ behind, (s.stream n).mask.getLsbD d = false) (hq : (s.die d).freeQueue = b :: rest)
    (only : ∀ x, s.eligible (s.stream i).mask x = true ↔ x = d)
    (low : s.limits.lowWater ≤ rest.length ∨ (s.die d).supplyLow = true)
    (full : s.limits.dieInFlight ≤ (s.die d).inFlight) (not_on : i ∉ (s.die d).slotWait)
    (hs : (s.stream i).state = .waitSupply ∨ (s.stream i).state = .draining)
    (due : (s.stream i).sealing = .pending ∨ s.geo.sectors ≤ s.uncut i) (some_uncut : 1 ≤ s.uncut i)
    (below : (s.stream i).inFlight < (s.stream i).depth) :
    s.supplyArbiter d = s.served i d b rest (ahead ++ behind) := by
  have eligible := (only d).mpr rfl
  simp only [State.eligible, Bool.and_eq_true, decide_eq_true_eq, Bool.not_eq_true'] at eligible
  obtain ⟨⟨⟨covers, present⟩, core⟩, -⟩ := eligible
  have off : (ahead ++ i :: behind).filter (· ≠ i) = ahead ++ behind := by
    rw [List.filter_append, List.filter_cons_of_neg (by simp), List.filter_eq_self.mpr, List.filter_eq_self.mpr]
    · exact fun n hn => decide_eq_true fun same => fresh' (same ▸ hn)
    · exact fun n hn => decide_eq_true fun same => fresh (same ▸ hn)
  let y : State := { s with waitSupply := ahead ++ behind }
  have left : s.leaveSupply i = y := by rw [State.leaveSupply, hw, off]
  have off' : (ahead ++ behind).filter (· ≠ i) = ahead ++ behind := by
    rw [← off, List.filter_filter]; simp
  let opened : State := ((({ s with waitSupply := ahead ++ behind, rotation := d } : State).setDie d { s.die d with
      freeQueue := rest, openPoints := (s.die d).openPoints + 1 }).setSegment ⟨d, b⟩
    { Segment.powerOn with state := .opened, owner := some i, cls := (s.stream i).cls.segment }).setStream i
    { s.stream i with writePoint := some ⟨d, b⟩, state := (s.stream i).state.gainPoint }
  have die : opened.die d = { s.die d with freeQueue := rest, openPoints := (s.die d).openPoints + 1 } :=
    State.setDie_die_same ..
  have opens : y.openPoint i d b = opened := by
    have queue : (y.die d).freeQueue.tail = rest := by rw [show y.die d = s.die d from rfl, hq]; rfl
    have unfolded : y.openPoint i d b = { opened with waitSupply := (ahead ++ behind).filter (· ≠ i) } := by
      simp only [State.openPoint, queue]
      rfl
    rw [unfolded, off']
    rfl
  have allocated : y.allocate i = some opened := by
    have chosen : y.chooseDie (y.stream i).mask = some d := State.chooseDie_only only
    have queue : (y.die d).freeQueue = b :: rest := hq
    simp only [State.allocate, chosen, queue]
    rw [opens, State.reportSupplyLow_quiet]
    rw [die]
    exact low
  have stream : opened.stream i = { s.stream i with
      writePoint := some ⟨d, b⟩, state := (s.stream i).state.gainPoint } := State.setStream_stream_same ..
  have uncut : opened.uncut i = s.uncut i := State.setStream_uncut _ rfl
  have served : opened.test i = s.served i d b rest (ahead ++ behind) := by
    have open_ : (s.stream i).state.gainPoint ≠ .free ∧ (s.stream i).state.gainPoint ≠ .halted := by
      rcases hs with h | h <;> rw [h] <;> decide
    have cut_due : opened.cutDue i = true := by
      have geo : opened.geo = s.geo := rfl
      rcases due with h | h <;>
        simp [State.cutDue, stream, uncut, open_.1, open_.2, some_uncut, below, geo, h]
    rw [State.test_joinSlotWait cut_due (g := ⟨d, b⟩) (by rw [stream]) (by rw [die]; exact full)]
    have absent : ¬ (opened.die d).slotWait.contains i = true := by rw [die]; simpa using not_on
    have gained := StreamState.gainPoint_of_waiting hs
    refine (if_neg absent).trans ?_
    rw [die]
    refine (State.setDie_setDie ((({ s with waitSupply := ahead ++ behind, rotation := d } : State).setSegment ⟨d, b⟩
      { Segment.powerOn with state := .opened, owner := some i, cls := (s.stream i).cls.segment }).setStream i
      { s.stream i with writePoint := some ⟨d, b⟩, state := (s.stream i).state.gainPoint }) d _ ?_).trans ?_
    · exact fun same => Nat.succ_ne_zero _ (congrArg Die.openPoints same)
    · rw [gained]; rfl
  have stays (fuel : Nat) : State.serveSupply fuel (s.served i d b rest (ahead ++ behind)) d =
      s.served i d b rest (ahead ++ behind) := by
    refine State.serveSupply_idle fuel (.inr (hrest.imp (fun h => ?_) fun h n hn => ?_))
    · have die : (s.served i d b rest (ahead ++ behind)).die d = { s.die d with
          freeQueue := rest, openPoints := (s.die d).openPoints + 1, slotWait := (s.die d).slotWait ++ [i] } :=
        State.setDie_die_same ..
      rw [die, h]
    · have other : n ≠ i := by
        rintro rfl
        rcases List.mem_append.mp hn with h | h
        · exact fresh h
        · exact fresh' h
      have stream : (s.served i d b rest (ahead ++ behind)).stream n = s.stream n :=
        (State.setStream_stream ..).trans (if_neg other)
      rw [stream]
      exact (List.mem_append.mp hn).elim (hahead n) (h n)
  have fuel : s.waitSupply.length = ahead.length + behind.length + 1 := by rw [hw]; simp; omega
  have condition : ((s.die d).assigned.isSome && !(s.die d).freeQueue.isEmpty) = true := by rw [core, hq]; rfl
  simp only [State.supplyArbiter, fuel, State.serveSupply, condition, if_true, State.waiterFor_some hw hahead covers, left,
    allocated, served, stays]

end

/-- Settles O60, by the grant of the head of a slot wait list and the service of the oldest waiter. -/
theorem arbitersServeTheHead : Obligations.ArbitersServeTheHead := by
  unfold Obligations.ArbitersServeTheHead
  intro s d die
  have grant : exec (.dieSlotGrant d) s = .next (settle s (s.slotArbiter d)) := rfl
  have serve : exec (.waitSupplyServe d) s = .next (settle s (s.supplyArbiter d)) := rfl
  have same : settle s s = s := settle_eq_self s s fun p => by cases s.notice p <;> simp
  refine ⟨fun stops => ?_, ?_, fun idle => ?_, ?_⟩
  · rw [grant, State.slotArbiter_stops stops, same]
  · intro i b k rest g st hw hrest due some_uncut few ready
    have due : (s.headGranted d rest).geo.sectors ≤ (s.headGranted d rest).uncut i ∨
        ((s.headGranted d rest).stream i).sealing = .pending := due.symm.imp_left fun h => h.ge
    obtain ⟨cuts, ports⟩ := State.test_rest (s := s.headGranted d rest) (State.headGranted_ready ready) some_uncut few due
    have room : die.inFlight < s.limits.dieInFlight := ready.2.2.2.2.2.1
    have ended : State.grantSlots rest.length ((s.headGranted d rest).test i) d = (s.headGranted d rest).test i := by
      refine State.grantSlots_stops _ ?_
      have after : ((s.headGranted d rest).test i).die d = _ := cuts.die_self
      rw [after, State.headGranted_die, State.limits, cuts.control]
      exact hrest.imp id fun h => h.le
    rw [grant, State.slotArbiter_grants hw room, ended]
    exact ⟨_, rfl, settle_cuts cuts ports⟩
  · rw [serve, State.supplyArbiter_idle idle, same]
  · intro i b rest ahead behind g st hw fresh fresh' hahead hrest hq only low full not_on hs due some_uncut below
    rw [serve, State.supplyArbiter_serves hw fresh fresh' hahead hrest hq only low full not_on hs due some_uncut below]
    rw [settle_quiet s (s.served i d b rest (ahead ++ behind)) rfl fun _ => rfl]
    rfl

end Sys2Proof.Machine
end

section
/-! The reporting of completions (R55, R171): the settlement of O58, and of O16 (R172), whose placement reports one
completion after another. -/

namespace Sys2Proof.Machine

/-! ### A record that becomes FREE (R55) -/

section
variable {s : State} {r : Nat}

/-- With no RECORDS wait, none is opened (R41). -/
theorem State.openTenantRecordsWaits_none (h : ∀ g n, (s.function g).wait ≠ .records n) : s.openTenantRecordsWaits = s := by
  have one (g : Nat) : openRecordsWait s g = s := by
    cases hw : (s.function g).wait with
    | none => simp only [openRecordsWait, hw]
    | budget n => simp only [openRecordsWait, hw]
    | records n => exact absurd hw (h g n)
  exact List.foldlRecOn (motive := fun u => u = s) _ _ rfl fun u hu g _ => by rw [hu, one]

theorem State.openReclaimRecordsWait_none (h : ∀ n, s.budget.reclaimWait ≠ .records n) : s.openReclaimRecordsWait = s := by
  cases hw : s.budget.reclaimWait with
  | none => simp only [State.openReclaimRecordsWait, hw]
  | budget n => simp only [State.openReclaimRecordsWait, hw]
  | records n => exact absurd hw (h n)

theorem State.closeTest_open {i : Nat} (h : (s.stream i).state ≠ .draining) : s.closeTest i = s := by
  rw [State.closeTest, State.closeReady]
  simp [h]

/-- A RECLAIM record is FREE again, and no consequence follows. -/
def State.freedReclaim (s : State) (r : Nat) : State := { s.setRecord r .powerOn with reclaimInUse := s.reclaimInUse - 1 }

/-- A TENANT record of function f is FREE again, and no consequence follows. -/
def State.freedTenant (s : State) (r f : Nat) : State :=
  { (s.setRecord r .powerOn).setFunction f { s.function f with outstanding := (s.function f).outstanding - 1 } with
    tenantInUse := s.tenantInUse - 1 }

theorem State.freeRecord_reclaim (ho : (s.record r).origin = .reclaim) (hw : ∀ n, s.budget.reclaimWait ≠ .records n)
    (hs : (s.stream (s.record r).stream).state ≠ .draining) : s.freeRecord r = s.freedReclaim r := by
  have waits : (s.freedReclaim r).openReclaimRecordsWait = s.freedReclaim r := State.openReclaimRecordsWait_none hw
  have closed : (s.freedReclaim r).closeTest (s.record r).stream = s.freedReclaim r := State.closeTest_open hs
  have freed : s.freeRecord r = (s.freedReclaim r).openReclaimRecordsWait.closeTest (s.record r).stream := by
    simp only [State.freeRecord, ho]
    rfl
  rw [freed, waits, closed]

theorem State.fenceTest_none {f : Nat} (h : (s.function f).fence = none) : s.fenceTest f = s := by
  simp only [State.fenceTest, h]

theorem State.freeRecord_tenant {f : Nat} {serial : Word} (ho : (s.record r).origin = .tenant f serial)
    (hf : (s.function f).fence = none ∨ 2 ≤ (s.function f).outstanding)
    (hw : ∀ g n, (s.function g).wait ≠ .records n) (hs : (s.stream (s.record r).stream).state ≠ .draining) :
    s.freeRecord r = s.freedTenant r f := by
  have own : (s.freedTenant r f).function f = { s.function f with outstanding := (s.function f).outstanding - 1 } :=
    State.setFunction_function_same ..
  have fence : (s.freedTenant r f).fenceTest f = s.freedTenant r f := by
    rcases hf with none_ | some_
    · exact State.fenceTest_none (by rw [own]; exact none_)
    · exact State.fenceTest_waits (by rw [own]; exact (show (s.function f).outstanding - 1 ≠ 0 by omega))
  have waits : (s.freedTenant r f).openTenantRecordsWaits = s.freedTenant r f := by
    refine State.openTenantRecordsWaits_none fun g n => ?_
    by_cases hg : g = f
    · subst hg; rw [own]; exact hw g n
    · have other : (s.freedTenant r f).function g = s.function g := (State.setFunction_function ..).trans (if_neg hg)
      rw [other]; exact hw g n
  have closed : (s.freedTenant r f).closeTest (s.record r).stream = s.freedTenant r f := State.closeTest_open hs
  have freed : s.freeRecord r =
      ((s.freedTenant r f).fenceTest f).openTenantRecordsWaits.closeTest (s.record r).stream := by
    simp only [State.freeRecord, ho]
    rfl
  rw [freed, fence, waits, closed]

/-! ### One completion is reported (R55, R171) -/

/-- A completion leaves the reporting order. -/
def State.unlisted (s : State) (c : Completion) : State := { s with reports := s.reports.erase c }

theorem State.reportPort_reclaim (ho : (s.record r).origin = .reclaim) : s.reportPort (.fragment r) = .rp := by
  simp only [State.reportPort, ho]

theorem State.reportPort_tenant {f : Nat} {serial : Word} (ho : (s.record r).origin = .tenant f serial) :
    s.reportPort (.fragment r) = .fp := by
  simp only [State.reportPort, ho]

theorem Fragment.reportStatus_of {f : Fragment} {status : RetireStatus} (h : f.condition = .pendingReport status) :
    f.reportStatus = status := by
  simp only [Fragment.reportStatus, h]

theorem State.report_eq {status : RetireStatus} {p : Port} (hc : (s.record r).condition = .pendingReport status)
    (hp : s.reportPort (.fragment r) = p) (room : s.hasRoom p = true) : s.report (.fragment r) =
      ((s.unlisted (.fragment r)).emit p (.fragmentDone (s.record r).tag (s.record r).stream status)).freeRecord r := by
  have has_room : (s.unlisted (.fragment r)).hasRoom p = true := room
  rw [← State.pushEvent_eq_emit has_room, ← Fragment.reportStatus_of hc, ← hp]
  rfl

theorem State.report_reclaim {status : RetireStatus} (hc : (s.record r).condition = .pendingReport status)
    (ho : (s.record r).origin = .reclaim) (hw : ∀ n, s.budget.reclaimWait ≠ .records n)
    (hs : (s.stream (s.record r).stream).state ≠ .draining) (room : s.hasRoom .rp = true) :
    s.report (.fragment r) = ((s.unlisted (.fragment r)).freedReclaim r).emit .rp
      (.fragmentDone (s.record r).tag (s.record r).stream status) := by
  rw [State.report_eq hc (State.reportPort_reclaim ho) room, State.freeRecord_reclaim]
  · rw [State.emit_eq, State.emit_eq]; rfl
  · rw [State.emit_eq]; exact ho
  · rw [State.emit_eq]; exact hw
  · rw [State.emit_eq]; exact hs

theorem State.report_tenant {f : Nat} {serial : Word} {status : RetireStatus}
    (hc : (s.record r).condition = .pendingReport status) (ho : (s.record r).origin = .tenant f serial)
    (hf : (s.function f).fence = none ∨ 2 ≤ (s.function f).outstanding) (hw : ∀ g n, (s.function g).wait ≠ .records n)
    (hs : (s.stream (s.record r).stream).state ≠ .draining) (room : s.hasRoom .fp = true) :
    s.report (.fragment r) = ((s.unlisted (.fragment r)).freedTenant r f).emit .fp
      (.fragmentDone (s.record r).tag (s.record r).stream status) := by
  rw [State.report_eq hc (State.reportPort_tenant ho) room, State.freeRecord_tenant (f := f) (serial := serial)]
  · rw [State.emit_eq, State.emit_eq]; rfl
  · rw [State.emit_eq]; exact ho
  · rw [State.emit_eq]; exact hf
  · rw [State.emit_eq]; exact hw
  · rw [State.emit_eq]; exact hs

theorem State.report_flush {f : Nat} (room : s.hasRoom .fp = true) : s.report (.flush f) =
    ((s.unlisted (.flush f)).setFunction f { s.function f with flush := .none }).emit .fp
      (.flushDone f (s.function f).flush.tag) := by
  have has_room : (s.unlisted (.flush f)).hasRoom .fp = true := room
  have reported : s.report (.flush f) = ((s.unlisted (.flush f)).emit .fp (.flushDone f (s.function f).flush.tag)).setFunction f
      { s.function f with flush := .none } := by
    rw [← State.pushEvent_eq_emit has_room]; rfl
  rw [reported, State.emit_eq, State.emit_eq]
  rfl

theorem State.tryReport_waits {c : Completion} (h : s.oldestReport (s.reportPort c) ≠ some c ∨ s.hasRoom (s.reportPort c) = false) :
    s.tryReport c = s := by
  refine if_neg ?_
  rw [State.reportReady, Bool.and_eq_true, decide_eq_true_eq]
  rintro ⟨room, oldest⟩
  rcases h with other | full
  · exact other oldest
  · rw [full] at room; cases room

theorem State.tryReport_ready {c : Completion} {p : Port} (hp : s.reportPort c = p) (oldest : s.oldestReport p = some c)
    (room : s.hasRoom p = true) : s.tryReport c = s.report c := by
  refine if_pos ?_
  rw [State.reportReady, hp, room, oldest]
  simp

/-- The end of a step that changed something apart from the ports and queued one event. -/
theorem settle_emit {base : State} {p : Port} {e : Event} (ports : base.ports = s.ports) (room : s.roomFor 1) :
    s.hasNoAnswer (settle s (base.emit p e)) ∧
      settle s (base.emit p e) = { base with ports := (settle s (base.emit p e)).ports } ∧
      s.tells (settle s (base.emit p e)) fun q => if q = p then [e] else [] := by
  have does := ((State.Does.of_ports ports).emit p e).told_eq fun q => List.nil_append (if q = p then [e] else [])
  obtain ⟨no_answer, delivers, rest⟩ := settle_does does
  refine ⟨no_answer, rest, delivers.tells_of_roomFor room fun q => ?_⟩
  split <;> simp

end

/-- Settles O58, by the report of one completion of each kind. -/
theorem completionsAreReportedInOrder : Obligations.CompletionsAreReportedInOrder := by
  unfold Obligations.CompletionsAreReportedInOrder
  intro s
  have fragment (r : Nat) : exec (.fragmentDone r) s = .next (settle s (s.tryReport (.fragment r))) := rfl
  have flush (f : Nat) : exec (.flushDone f) s = .next (settle s (s.tryReport (.flush f))) := rfl
  have same : settle s s = s := settle_eq_self s s fun p => by cases s.notice p <;> simp
  have has_room (room : s.roomFor 1) (p : Port) : s.hasRoom p = true := decide_eq_true (room p)
  refine ⟨fun r waits => ?_, fun f waits => ?_, ?_, ?_, ?_⟩
  · rw [fragment, State.tryReport_waits waits, same]
  · rw [flush, State.tryReport_waits waits, same]
  · intro r status rec' hc ho oldest hw hs room
    rw [fragment, State.tryReport_ready (State.reportPort_reclaim ho) oldest (has_room room .rp),
      State.report_reclaim hc ho hw hs (has_room room .rp)]
    exact ⟨_, rfl, settle_emit rfl room⟩
  · intro r f serial status rec' fr hc ho oldest hf hw hs room
    rw [fragment, State.tryReport_ready (State.reportPort_tenant ho) oldest (has_room room .fp),
      State.report_tenant hc ho hf hw hs (has_room room .fp)]
    exact ⟨_, rfl, settle_emit rfl room⟩
  · intro f serial tag hf oldest room
    rw [flush, State.tryReport_ready rfl oldest (has_room room .fp), State.report_flush (has_room room .fp), hf]
    exact ⟨_, rfl, settle_emit rfl room⟩

/-! ### COLLECT (R171, R172) -/

/-- A state after k RECLAIM completions were placed: these events queued, and these records and reports left. -/
def State.placing (s : State) (records : Table Fragment) (k : Nat) (reports : List Completion) (es : List Event) : State :=
  { s.setPort .rp { s.port .rp with events := (s.port .rp).events ++ es } with
    records := records, reclaimInUse := s.reclaimInUse - k, reports := reports }

section
variable {s : State}

theorem State.placing_placing (records records' : Table Fragment) (k k' : Nat) (reports reports' : List Completion)
    (es es' : List Event) : (s.placing records k reports es).placing records' k' reports' es' =
      s.placing records' (k + k') reports' (es ++ es') := by
  have port : (s.placing records k reports es).port .rp =
      { s.port .rp with events := (s.port .rp).events ++ es } := rfl
  simp only [State.placing, ← Nat.sub_sub, ← List.append_assoc] at port ⊢
  rw [port]
  rfl

theorem State.placing_none (h : (s.port .rp).events = (s.port .rp).events ++ []) : s.placing s.records 0 s.reports [] = s := by
  rw [State.placing, ← h]
  rfl

/-- The event of a completion placed for RP. -/
def State.doneEvent (s : State) (status : Nat → RetireStatus) (r : Nat) : Event :=
  .fragmentDone (s.record r).tag (s.record r).stream (status r)

/-- The records that wait for RP, each to be reported with its status and nothing to follow. -/
def State.waitsForRp (s : State) (rs : List Nat) (status : Nat → RetireStatus) : Prop :=
  ∀ r ∈ rs, (s.record r).condition = .pendingReport (status r) ∧ (s.record r).origin = .reclaim ∧
    (s.stream (s.record r).stream).state ≠ .draining

theorem State.report_placing {status : RetireStatus} {r : Nat} (hc : (s.record r).condition = .pendingReport status)
    (ho : (s.record r).origin = .reclaim) (hw : ∀ n, s.budget.reclaimWait ≠ .records n)
    (hs : (s.stream (s.record r).stream).state ≠ .draining) (room : s.hasRoom .rp = true) : s.report (.fragment r) =
      s.placing (Table.write .powerOn s.records r .powerOn) 1 (s.reports.erase (.fragment r))
        [.fragmentDone (s.record r).tag (s.record r).stream status] := by
  have has_room : ((s.unlisted (.fragment r)).freedReclaim r).hasRoom .rp = true := room
  rw [State.report_reclaim hc ho hw hs room, ← State.pushEvent_eq_emit has_room]
  rfl

/-- R171: completions for RP are placed, oldest first, while there is room. -/
theorem State.placeFor_rp (rs : List Nat) (status : Nat → RetireStatus) (hr : s.reports = rs.map Completion.fragment)
    (distinct : rs.Nodup) (waits : s.waitsForRp rs status) (hw : ∀ n, s.budget.reclaimWait ≠ .records n) :
    let placed := rs.take (256 - (s.port .rp).events.length)
    ∃ records, State.placeFor rs.length s .rp = s.placing records placed.length
        ((rs.drop placed.length).map Completion.fragment) (placed.map (s.doneEvent status)) ∧
      ∀ r, Table.read .powerOn records r = if r ∈ placed then .powerOn else s.record r := by
  induction rs generalizing s with
  | nil =>
    refine ⟨s.records, ?_, fun r => by simp; rfl⟩
    have none_left : s.reports = [] := hr
    simp only [List.take_nil, List.length_nil, List.map_nil, List.drop_nil, ← none_left]
    exact (State.placing_none (by simp)).symm
  | cons r rs ih =>
    obtain ⟨fresh, distinct⟩ := List.nodup_cons.mp distinct
    obtain ⟨hc, ho, hs⟩ := waits r List.mem_cons_self
    by_cases full : 256 ≤ (s.port .rp).events.length
    · have no_room : s.hasRoom .rp = false := decide_eq_false (not_lt.mpr full)
      have none_placed : 256 - (s.port .rp).events.length = 0 := by omega
      refine ⟨s.records, ?_, fun x => by simp [none_placed]; rfl⟩
      simp only [none_placed, List.take_zero, List.length_nil, List.map_nil, List.drop_zero, ← hr]
      refine Eq.trans ?_ (State.placing_none (by simp)).symm
      simp only [List.length_cons, State.placeFor, no_room, Bool.false_eq_true, if_false]
    · have room : s.hasRoom .rp = true := decide_eq_true (not_le.mp full)
      have oldest : s.oldestReport .rp = some (.fragment r) := by
        rw [State.oldestReport, hr, List.map_cons, List.find?_cons, State.reportPort_reclaim ho]; rfl
      have left : s.reports.erase (.fragment r) = rs.map Completion.fragment := by
        rw [hr, List.map_cons, List.erase_cons_head]
      have step := State.report_placing hc ho hw hs room
      rw [left] at step
      let y := s.placing (Table.write .powerOn s.records r .powerOn) 1 (rs.map Completion.fragment)
        [.fragmentDone (s.record r).tag (s.record r).stream (status r)]
      have record (x : Nat) : y.record x = if x = r then .powerOn else s.record x := Table.read_write ..
      have kept {x : Nat} (hx : x ∈ rs) : y.record x = s.record x := by
        rw [record, if_neg]
        rintro rfl
        exact fresh hx
      have events : (y.port .rp).events.length = (s.port .rp).events.length + 1 := by
        show ((s.port .rp).events ++ [_]).length = _
        rw [List.length_append]; rfl
      obtain ⟨records, placed, reads⟩ := ih (s := y) rfl distinct (fun x hx => by
        rw [kept hx]; exact waits x (List.mem_cons_of_mem _ hx)) hw
      have count : 256 - (s.port .rp).events.length = 256 - (y.port .rp).events.length + 1 := by rw [events]; omega
      have told : (rs.take (256 - (y.port .rp).events.length)).map (y.doneEvent status) =
          (rs.take (256 - (y.port .rp).events.length)).map (s.doneEvent status) :=
        List.map_congr_left fun x hx => by rw [State.doneEvent, State.doneEvent, kept (List.mem_of_mem_take hx)]
      refine ⟨records, ?_, fun x => ?_⟩
      · have first : State.placeFor (r :: rs).length s .rp = State.placeFor rs.length y .rp := by
          simp only [List.length_cons, State.placeFor, room, if_true, oldest, step]
          rfl
        rw [first, placed, State.placing_placing, told, count, List.take_succ_cons, List.length_cons, Nat.add_comm 1]
        rfl
      · rw [reads, record, count, List.take_succ_cons]
        by_cases hx : x = r
        · simp [hx]
        · simp [hx]

theorem State.placeReports_none {p : Port} (h : s.oldestReport p = none) : s.placeReports p = s := by
  unfold State.placeReports
  cases s.reports.length with
  | zero => rfl
  | succ fuel =>
    rw [State.placeFor, h]
    split <;> rfl

theorem collectAct_eq {p : Port} {count : Byte} (low : 1 ≤ count.toNat) (high : count.toNat ≤ 15) :
    collectAct p count s = ⟨.ok, collectPayload ((s.port p).events.take count.toNat) (s.port p).lost
      (((s.takeEvents p count.toNat).placeReports p).port p).events.length, (s.takeEvents p count.toNat).placeReports p⟩ := by
  refine if_neg ?_
  simp only [Bool.or_eq_true, decide_eq_true_eq]
  omega

theorem State.notice_of_events {p : Port} (h : (s.port p).events ≠ []) : s.notice p = true := by
  simp [State.notice, h]

theorem State.setLink_takeEvents (p : Port) (l : Link) (n : Nat) :
    (s.setLink p l).takeEvents p n = (s.takeEvents p n).setLink p l := by
  simp only [State.takeEvents, State.setLink, State.setPort_port_same]
  simp only [State.setPort, Ports.put_put]

/-- Events that leave a queue make no notice condition true. -/
theorem State.takeEvents_notice {p : Port} {n : Nat} (q : Port) :
    s.notice q = true ∨ (s.takeEvents p n).notice q = false := by
  by_cases hq : q = p
  · subst hq
    by_cases empty : (s.port q).events = []
    · have same : (s.takeEvents q n).notice q = s.notice q :=
        State.notice_congr (by rw [State.takeEvents, State.setPort_port_same, empty, List.drop_nil]) fun _ _ => rfl
      rw [same]
      cases s.notice q <;> simp
    · exact .inl (State.notice_of_events empty)
  · have same : (s.takeEvents p n).notice q = s.notice q :=
      State.notice_congr (by rw [State.takeEvents, State.setPort_port, if_neg hq]) fun _ _ => rfl
    rw [same]
    cases s.notice q <;> simp

end

/-- Settles O16, by the placement of the completions that a COLLECT makes room for. -/
theorem collectGivesTheOldestEvents : Obligations.CollectGivesTheOldestEvents := by
  unfold Obligations.CollectGivesTheOldestEvents
  intro v count s hr moved left
  let x := s.setLink v.port .taken
  have port : x.port v.port = { s.port v.port with link := .taken } := State.setPort_port_same ..
  refine ⟨fun out => exec_refused hr (if_pos ?_), fun low high none_waits => ?_,
    fun low high hp some_event rs status reports distinct waits hw => ?_⟩
  · simp only [Bool.or_eq_true, decide_eq_true_eq]
    exact out
  · have waits : ((s.takeEvents v.port count.toNat).setLink v.port .taken).oldestReport v.port = none := none_waits
    have act : collectAct v.port count x = ⟨.ok, collectPayload moved (s.port v.port).lost left.length,
        (s.takeEvents v.port count.toNat).setLink v.port .taken⟩ := by
      rw [collectAct_eq low high, State.setLink_takeEvents, State.placeReports_none waits, port, State.setLink_port_same,
        State.takeEvents, State.setPort_port_same]
    exact exec_calm hr act State.takeEvents_notice
  · obtain ⟨p, crc⟩ := v
    obtain rfl : p = .rp := hp
    let y := x.takeEvents .rp count.toNat
    obtain ⟨records, placed, reads⟩ := State.placeFor_rp (s := y) rs status reports distinct waits hw
    have listed : y.reports.length = rs.length := (congrArg List.length reports).trans (List.length_map ..)
    have act := collectAct_eq (s := x) (p := .rp) low high
    rw [State.placeReports, listed, placed] at act
    refine ⟨_, exec_calm (u := { s.setPort .rp { s.port .rp with
      events := left ++ (rs.take (256 - left.length)).map (s.doneEvent status), lost := false } with
        records := records, reclaimInUse := s.reclaimInUse - (rs.take (256 - left.length)).length
        reports := (rs.drop (rs.take (256 - left.length)).length).map Completion.fragment }) hr (act.trans ?_) fun q => ?_, ?_, reads⟩
    · refine congrArg₂ (Reply.mk .ok) ?_ rfl
      show collectPayload moved (s.port .rp).lost (left ++ (rs.take (256 - left.length)).map _).length = _
      rw [List.length_append, List.length_map]
      rfl
    · by_cases hq : q = .rp
      · subst hq; exact .inl (State.notice_of_events some_event)
      · refine (Bool.eq_false_or_eq_true (s.notice q)).imp id fun quiet => Eq.trans ?_ quiet
        exact State.notice_congr (congrArg PortState.events ((State.setPort_port ..).trans (if_neg hq))) fun _ _ => rfl
    · rfl

end Sys2Proof.Machine
end

section
/-! The closing step of a segment (R88) and what becomes of the write point a close leaves (R19); then the settlement of
O59. -/

namespace Sys2Proof.Machine

/-! ### The closing step (R88, R91) -/

/-- Steps 1 to 4 of the closing step: the die's open count, the close sequence and the segment's entry. -/
def State.entryShut (s : State) (g : Seg) (failure : Bool) : State :=
  let t := if (s.segment g).state = .opened then s.dropOpenPoint g.die else s
  { t with closeSeq := t.closeSeq + 1 }.setSegment g ((s.segment g).close s.geo.units (s.closeSeq + 1) failure)

/-- What the closing step of segment g does apart from its events. -/
def State.segmentShut (s : State) (g : Seg) (failure : Bool) : State :=
  match (s.segment g).owner with
  | some i => (s.entryShut g failure).detach i g
  | none => s.entryShut g failure

/-- The event of the closing step. -/
def State.shutEvent (s : State) (g : Seg) (failure : Bool) : Event :=
  .segmentClosed g (s.segment g).owner (decide ((s.segment g).doneUnits < s.geo.units) || (s.segment g).short)
    (failure || (s.segment g).failed)

/-- A state with its streams replaced. -/
def State.withStreams (s : State) (ss : Table Stream) : State := { s with streams := ss }

/-- Port q is that of die d's core. -/
def State.coreOf (s : State) (d : Nat) (q : Port) : Bool := (s.die d).assigned.any fun c => q = c.port

section
variable {s : State} {g : Seg} {failure : Bool}

theorem State.dropOpenPoint_die (d x : Nat) : (s.dropOpenPoint d).die x =
    if x = d then { s.die d with openPoints := (s.die d).openPoints - 1 } else s.die x := State.setDie_die ..

theorem State.detach_stream (i : Nat) (h : Seg) (n : Nat) : (s.detach i h).stream n = if n = i then { s.stream i with
    writePoint := if (s.stream i).writePoint = some h then none else (s.stream i).writePoint
    finishing := if (s.stream i).finishing = some h then none else (s.stream i).finishing } else s.stream n :=
  State.setStream_stream ..

theorem State.closeSegment_eq : s.closeSegment g failure =
    ((s.segmentShut g failure).emitToDie g.die (s.shutEvent g failure)).emit .rp (s.shutEvent g failure) := by
  have event (units : Nat) (seq : Word) : Event.segmentClosed g (s.segment g).owner
      ((s.segment g).close units seq failure).short ((s.segment g).close units seq failure).failed =
      .segmentClosed g (s.segment g).owner (decide ((s.segment g).doneUnits < units) || (s.segment g).short)
        (failure || (s.segment g).failed) := by
    simp only [Segment.close]
    congr 1
    · split <;> simp [*]
    · cases failure <;> rfl
  unfold State.closeSegment State.segmentShut State.entryShut State.shutEvent
  dsimp only
  rw [event]
  by_cases opened : (s.segment g).state = .opened
  · rw [if_pos opened]; rfl
  · rw [if_neg opened]; rfl

theorem State.entryShut_die (x : Nat) : (s.entryShut g failure).die x =
    if x = g.die ∧ (s.segment g).state = .opened then { s.die x with openPoints := (s.die x).openPoints - 1 } else s.die x := by
  have dies : (s.entryShut g failure).die x = (if (s.segment g).state = .opened then s.dropOpenPoint g.die else s).die x := rfl
  rw [dies]
  by_cases opened : (s.segment g).state = .opened
  · rw [if_pos opened, State.dropOpenPoint_die]
    by_cases hx : x = g.die
    · subst hx; simp [opened]
    · simp [hx]
  · rw [if_neg opened, if_neg fun h => opened h.2]

theorem State.entryShut_rest : s.entryShut g failure =
    { s.setSegment g ((s.segment g).close s.geo.units (s.closeSeq + 1) failure) with
      dies := (s.entryShut g failure).dies, closeSeq := s.closeSeq + 1 } := by
  unfold State.entryShut
  split <;> rfl

theorem State.segmentShut_owned {i : Nat} (ho : (s.segment g).owner = some i) :
    s.segmentShut g failure = (s.entryShut g failure).detach i g := by rw [State.segmentShut, ho]

theorem State.segmentShut_unowned (ho : (s.segment g).owner = none) :
    s.segmentShut g failure = s.entryShut g failure := by rw [State.segmentShut, ho]

theorem State.segmentShut_die (x : Nat) : (s.segmentShut g failure).die x =
    if x = g.die ∧ (s.segment g).state = .opened then { s.die x with openPoints := (s.die x).openPoints - 1 } else s.die x := by
  rw [← State.entryShut_die (failure := failure)]
  unfold State.segmentShut
  cases (s.segment g).owner <;> rfl

theorem State.segmentShut_rest : s.segmentShut g failure =
    { s.setSegment g ((s.segment g).close s.geo.units (s.closeSeq + 1) failure) with
      dies := (s.segmentShut g failure).dies, streams := (s.segmentShut g failure).streams, closeSeq := s.closeSeq + 1 } := by
  have rest := State.entryShut_rest (s := s) (g := g) (failure := failure)
  cases ho : (s.segment g).owner with
  | none =>
    have streams : (s.entryShut g failure).streams = s.streams := by rw [rest]; rfl
    rw [State.segmentShut_unowned ho, streams]
    exact rest
  | some i =>
    rw [State.segmentShut_owned ho]
    have both := congrArg (State.withStreams · ((s.entryShut g failure).detach i g).streams) rest
    exact both

theorem State.segmentShut_stream {i : Nat} (ho : (s.segment g).owner = some i) (n : Nat) :
    (s.segmentShut g failure).stream n = if n = i then { s.stream i with
      writePoint := if (s.stream i).writePoint = some g then none else (s.stream i).writePoint
      finishing := if (s.stream i).finishing = some g then none else (s.stream i).finishing } else s.stream n := by
  have stream (m : Nat) : (s.entryShut g failure).stream m = s.stream m := by rw [State.entryShut_rest]; rfl
  rw [State.segmentShut_owned ho, State.detach_stream, stream, stream]

theorem State.coreOf_rp (d : Nat) : s.coreOf d .rp = false := by
  cases hc : (s.die d).assigned with
  | none => simp [State.coreOf, hc]
  | some c => cases c <;> simp [State.coreOf, hc, Core.port]

/-- The closing step tells the die's core and RP. -/
theorem State.closeSegment_does : s.Does (s.closeSegment g failure) (s.segmentShut g failure)
    (fun q => if q = .rp ∨ s.coreOf g.die q = true then [s.shutEvent g failure] else []) := by
  have ports : (s.segmentShut g failure).ports = s.ports := by rw [State.segmentShut_rest]; rfl
  have core : (s.segmentShut g failure).coreOf g.die = s.coreOf g.die := by
    funext q
    rw [State.coreOf, State.segmentShut_die]
    split <;> rfl
  have told := ((State.Does.of_ports ports).emitToDie g.die (s.shutEvent g failure)).emit .rp (s.shutEvent g failure)
  rw [State.closeSegment_eq]
  refine told.told_eq fun q => ?_
  show [] ++ (if (s.segmentShut g failure).coreOf g.die q = true then [s.shutEvent g failure] else []) ++ _ = _
  rw [core, List.nil_append]
  by_cases rp : q = .rp
  · subst rp; simp [State.coreOf_rp]
  · simp [rp]

/-! ### What becomes of a write point (R19) -/

variable {i : Nat}

/-- Segment g is no longer the write point of stream i, nor an open one of its die. -/
def State.unpointed (s : State) (i : Nat) (g : Seg) : State := (s.dropOpenPoint g.die).detach i g

theorem State.unpointed_rest : s.unpointed i g =
    { s with dies := (s.unpointed i g).dies, streams := (s.unpointed i g).streams } := rfl

theorem State.unpointed_die (x : Nat) : (s.unpointed i g).die x =
    if x = g.die then { s.die g.die with openPoints := (s.die g.die).openPoints - 1 } else s.die x :=
  State.dropOpenPoint_die ..

theorem State.unpointed_stream {n : Nat} (hn : n ≠ i) : (s.unpointed i g).stream n = s.stream n :=
  (State.detach_stream ..).trans (if_neg hn)

/-- With 32 free segments in the die's queue, an untouched write point becomes UNTRACKED. -/
theorem State.returnPoint_full (h : 32 ≤ (s.die g.die).freeQueue.length) :
    s.Does (s.returnPoint i g) ((s.unpointed i g).setSegment g .powerOn)
      (fun q => if s.coreOf g.die q = true then [.segmentReleased g] else []) := by
  have die : (s.unpointed i g).die g.die = { s.die g.die with openPoints := (s.die g.die).openPoints - 1 } :=
    (State.unpointed_die ..).trans (if_pos rfl)
  have full : ¬ ((s.unpointed i g).die g.die).freeQueue.length < Config.freeQueue := by rw [die]; exact not_lt.mpr h
  have returned : s.returnPoint i g = ((s.unpointed i g).setSegment g .powerOn).emitToDie g.die (.segmentReleased g) :=
    if_neg full
  have told := (State.Does.of_ports (s := s) (t := (s.unpointed i g).setSegment g .powerOn) rfl).emitToDie g.die
    (.segmentReleased g)
  rw [returned]
  refine told.told_eq fun q => ?_
  show [] ++ (if (s.unpointed i g).coreOf g.die q = true then [_] else []) = _
  rw [List.nil_append, State.coreOf, die]
  rfl

/-- With room in the die's queue, an untouched write point goes to its head, and no stream waits for it. -/
theorem State.returnPoint_room (h : (s.die g.die).freeQueue.length < 32)
    (idle : ∀ n ∈ s.waitSupply, (s.stream n).mask.getLsbD g.die = false) : s.returnPoint i g =
      ((s.unpointed i g).setSegment g { Segment.powerOn with state := .free }).setDie g.die { s.die g.die with
        openPoints := (s.die g.die).openPoints - 1, freeQueue := g.block :: (s.die g.die).freeQueue
        supplyLow := if s.limits.lowWater ≤ (s.die g.die).freeQueue.length + 1 then false else (s.die g.die).supplyLow } := by
  let u := (s.unpointed i g).setSegment g { Segment.powerOn with state := .free }
  have die : (s.unpointed i g).die g.die = { s.die g.die with openPoints := (s.die g.die).openPoints - 1 } :=
    (State.unpointed_die ..).trans (if_pos rfl)
  have room : ((s.unpointed i g).die g.die).freeQueue.length < Config.freeQueue := by rw [die]; exact h
  have returned : s.returnPoint i g = ((u.setDie g.die { (s.unpointed i g).die g.die with
      freeQueue := g.block :: ((s.unpointed i g).die g.die).freeQueue }).clearSupplyLow g.die).supplyArbiter g.die :=
    if_pos room
  rw [returned, State.clearSupplyLow_setDie _ _ _ (List.cons_ne_nil _ _), die]
  refine State.supplyArbiter_idle (.inr (.inr fun n hn => ?_))
  have mask : (u.stream n).mask = (s.stream n).mask := by
    show ((s.unpointed i g).stream n).mask = _
    by_cases hn : n = i
    · subst hn
      rw [State.unpointed, State.detach_stream, if_pos rfl]
      rfl
    · rw [State.unpointed_stream hn]
  show (u.stream n).mask.getLsbD g.die = false
  rw [mask]
  exact idle n hn

end

/-! ### The close of a stream completes (R18 to R20) -/

/-- A state whose streams, functions and ports are those of t. -/
def State.closedTo (base t : State) (waits : List Nat) (reclaim : Nat) : State :=
  { base with streams := t.streams, functions := t.functions, waitSupply := waits, openReclaim := reclaim, ports := t.ports }

section
variable {s : State} {i : Nat} {p : Port} {base : State} {disposal : Port → List Event}

/-- The words of the statement: the close of stream i completes, reported on port p, and leads to t. -/
def State.closesTo (s base t : State) (i : Nat) (p : Port) (disposal : Port → List Event) : Prop :=
  exec (.streamClosed i) s = .next t ∧ s.hasNoAnswer t ∧
    t = base.closedTo t (s.waitSupply.filter (· ≠ i))
      (if (s.stream i).cls = .reclaim then s.openReclaim - 1 else s.openReclaim) ∧
    (∀ n, t.stream n = if n = i then Stream.freeOf (s.stream i).cls (s.stream i).owner else s.stream n) ∧
    (∀ f, t.function f = if (s.stream i).cls = .tenant ∧ f = (s.stream i).owner then
      { s.function f with openStreams := (s.function f).openStreams - 1 } else s.function f) ∧
    s.delivers t fun q =>
      disposal q ++ if q = p ∨ (q = .fp ∧ (s.stream i).cls = .tenant) then [.streamClosed i] else []

/-- A close that may complete, with the port of its requester. -/
structure State.closable (s : State) (i : Nat) (p : Port) : Prop where
  ready : s.closeReady i = true
  requester : (s.stream i).requester = some p
  port : p ≠ .fp

/-- The completed close, from what became of the write point. -/
theorem State.closable.closesTo (c : s.closable i p)
    (h : s.Does ((s.leaveOwnSlotWait i).disposePoint i) base disposal) (streams : ∀ n, n ≠ i → base.stream n = s.stream n)
    (functions : base.functions = s.functions) (reclaim : base.openReclaim = s.openReclaim)
    (waits : base.waitSupply = s.waitSupply) : ∃ t, s.closesTo base t i p disposal := by
  let closed := base.withoutStream i (s.stream i).cls (s.stream i).owner
  have step : exec (.streamClosed i) s = .next (settle s (s.closeTest i)) := rfl
  obtain ⟨no_answer, delivers, rest⟩ := settle_does (State.completeClose_does h c.requester c.port)
  rw [State.closeTest_ready c.ready] at step
  generalize settle s (s.completeClose i) = t at no_answer delivers rest step
  have rest : t = closed.withPorts t.ports := rest
  have kept := State.withoutStream_rest base i (s.stream i).cls (s.stream i).owner
  have t_streams : t.streams = closed.streams := by rw [rest]; rfl
  have t_functions : t.functions = closed.functions := by rw [rest]; rfl
  refine ⟨t, step, no_answer, ?_, fun n => ?_, fun f => ?_, delivers⟩
  · have open_ : (if (s.stream i).cls = .reclaim then s.openReclaim - 1 else s.openReclaim) =
        if (s.stream i).cls = .tenant then base.openReclaim else base.openReclaim - 1 := by
      rw [reclaim]; cases (s.stream i).cls <;> rfl
    rw [State.closedTo, t_streams, t_functions, open_, ← waits]
    exact rest.trans (congrArg (State.withPorts · t.ports) kept)
  · have stream : t.stream n = closed.stream n := congrArg (Table.read Stream.powerOn · n) t_streams
    rw [stream, State.withoutStream_stream]
    by_cases hn : n = i
    · rw [if_pos hn, if_pos hn]
    · rw [if_neg hn, if_neg hn, streams n hn]
  · have function : t.function f = closed.function f := congrArg (Table.read Function.powerOn · f) t_functions
    have before : base.function f = s.function f := congrArg (Table.read Function.powerOn · f) functions
    rw [function, State.withoutStream_function, before]

variable {g : Seg}

theorem State.leaveOwnSlotWait_eq (hw : (s.stream i).writePoint = some g) : s.leaveOwnSlotWait i = s.leaveSlotWait g.die i := by
  simp only [State.leaveOwnSlotWait, hw]

theorem State.leaveSlotWait_die (d x : Nat) : (s.leaveSlotWait d i).die x =
    if x = d then { s.die d with slotWait := (s.die d).slotWait.filter (· ≠ i) } else s.die x := State.setDie_die ..

theorem State.leaveSlotWait_coreOf (d : Nat) (q : Port) : (s.leaveSlotWait d i).coreOf d q = s.coreOf d q := by
  rw [State.coreOf, State.leaveSlotWait_die, if_pos rfl]
  rfl

theorem Segment.close_intact (e : Segment) (units : Nat) (seq : Word) : e.close units seq false = { e with
    state := .closed, nextUnit := e.doneUnits, closeSeq := seq, short := decide (e.doneUnits < units) || e.short } := by
  simp only [Segment.close, Bool.false_eq_true, if_false]
  congr 1
  split <;> simp [*]

theorem State.disposePoint_touched (hw : (s.stream i).writePoint = some g) (h : 1 ≤ (s.segment g).nextUnit) :
    s.disposePoint i = s.closeSegment g false := by
  simp only [State.disposePoint, hw, Nat.one_le_iff_ne_zero.mp h, if_false]

theorem State.disposePoint_untouched (hw : (s.stream i).writePoint = some g) (h : (s.segment g).nextUnit = 0) :
    s.disposePoint i = s.returnPoint i g := by
  simp only [State.disposePoint, hw, h, if_true]

end

section
variable {s : State} {i : Nat} {p : Port} {g : Seg}

/-- A completed close whose write point left one entry, one die and the stream changed. -/
theorem State.closable.closesTo_of_kept (c : s.closable i p) {b : State} {entry : Segment} {d : Die}
    {disposal : Port → List Event} (disposed : s.Does ((s.leaveOwnSlotWait i).disposePoint i) b disposal)
    (die : ∀ x, b.die x = if x = g.die then d else s.die x) (streams : ∀ n, n ≠ i → b.stream n = s.stream n)
    (kept : b = { s.setSegment g entry with dies := b.dies, streams := b.streams }) :
    ∃ t : State, (∀ x, t.die x = if x = g.die then d else s.die x) ∧
      s.closesTo { s.setSegment g entry with dies := t.dies } t i p disposal := by
  obtain ⟨t, next, no_answer, rest, others⟩ := c.closesTo disposed streams (by rw [kept]; rfl) (by rw [kept]; rfl)
    (by rw [kept]; rfl)
  have dies : t.dies = b.dies := by rw [rest]; rfl
  refine ⟨t, fun x => ?_, next, no_answer, ?_, others⟩
  · rw [← die x]
    exact congrArg (Table.read Die.powerOn · x) dies
  · have both := congrArg (State.closedTo · t (s.waitSupply.filter (· ≠ i))
      (if (s.stream i).cls = .reclaim then s.openReclaim - 1 else s.openReclaim)) kept
    rw [dies]
    exact rest.trans both

/-- A write point with a unit cut is closed (R19, R88). -/
theorem State.closable.closes_touched (c : s.closable i p) (point : (s.stream i).writePoint = some g)
    (opened : (s.segment g).state = .opened) (owner : (s.segment g).owner = some i) (touched : 1 ≤ (s.segment g).nextUnit) :
    ∃ t : State, (∀ x, t.die x = if x = g.die then { s.die g.die with
        openPoints := (s.die g.die).openPoints - 1, slotWait := (s.die g.die).slotWait.filter (· ≠ i) } else s.die x) ∧
      s.closesTo { s.setSegment g { s.segment g with
          state := .closed, nextUnit := (s.segment g).doneUnits, closeSeq := s.closeSeq + 1
          short := decide ((s.segment g).doneUnits < s.geo.units) || (s.segment g).short } with
        dies := t.dies, closeSeq := s.closeSeq + 1 } t i p
        fun q => if q = .rp ∨ s.coreOf g.die q = true then [.segmentClosed g (some i)
          (decide ((s.segment g).doneUnits < s.geo.units) || (s.segment g).short) (s.segment g).failed] else [] := by
  let y := s.leaveSlotWait g.die i
  have event : y.shutEvent g false = .segmentClosed g (some i)
      (decide ((s.segment g).doneUnits < s.geo.units) || (s.segment g).short) (s.segment g).failed := by
    rw [State.shutEvent, show (y.segment g).owner = some i from owner]; rfl
  have disposed : s.Does ((s.leaveOwnSlotWait i).disposePoint i) (y.segmentShut g false)
      fun q => if q = .rp ∨ s.coreOf g.die q = true then [y.shutEvent g false] else [] := by
    have core : y.coreOf g.die = s.coreOf g.die := funext fun q => State.leaveSlotWait_coreOf g.die q
    have does := (State.closeSegment_does (s := y) (g := g) (failure := false)).after (s := s) rfl
    rw [core] at does
    rw [State.leaveOwnSlotWait_eq point, State.disposePoint_touched (s := y) point touched]
    exact does
  rw [event] at disposed
  have shut := State.segmentShut_rest (s := y) (g := g) (failure := false)
  rw [Segment.close_intact] at shut
  have die (x : Nat) : (y.segmentShut g false).die x = if x = g.die then { s.die g.die with
      openPoints := (s.die g.die).openPoints - 1, slotWait := (s.die g.die).slotWait.filter (· ≠ i) } else s.die x := by
    rw [State.segmentShut_die, State.leaveSlotWait_die]
    by_cases hx : x = g.die
    · rw [if_pos ⟨hx, opened⟩, if_pos hx, if_pos hx]
    · rw [if_neg fun h => hx h.1, if_neg hx, if_neg hx]
  have streams (n : Nat) (hn : n ≠ i) : (y.segmentShut g false).stream n = s.stream n :=
    (State.segmentShut_stream (s := y) owner n).trans (if_neg hn)
  generalize y.segmentShut g false = b at disposed shut die streams
  obtain ⟨t, next, no_answer, rest, others⟩ := c.closesTo disposed streams (by rw [shut]; rfl) (by rw [shut]; rfl)
    (by rw [shut]; rfl)
  have dies : t.dies = b.dies := by rw [rest]; rfl
  refine ⟨t, fun x => ?_, next, no_answer, ?_, others⟩
  · rw [← die x]
    exact congrArg (Table.read Die.powerOn · x) dies
  · have both := congrArg (State.closedTo · t (s.waitSupply.filter (· ≠ i))
      (if (s.stream i).cls = .reclaim then s.openReclaim - 1 else s.openReclaim)) shut
    rw [dies]
    exact rest.trans both

/-- An untouched write point, with room in its die's free queue and no stream waiting for it, is free again (R19). -/
theorem State.closable.closes_room (c : s.closable i p) (point : (s.stream i).writePoint = some g)
    (untouched : (s.segment g).nextUnit = 0) (room : (s.die g.die).freeQueue.length < 32)
    (idle : ∀ n ∈ s.waitSupply, (s.stream n).mask.getLsbD g.die = false) :
    ∃ t : State, (∀ x, t.die x = if x = g.die then { s.die g.die with
        openPoints := (s.die g.die).openPoints - 1, slotWait := (s.die g.die).slotWait.filter (· ≠ i)
        freeQueue := g.block :: (s.die g.die).freeQueue
        supplyLow := if s.limits.lowWater ≤ (s.die g.die).freeQueue.length + 1 then false else (s.die g.die).supplyLow }
      else s.die x) ∧
      s.closesTo { s.setSegment g { Segment.powerOn with state := .free } with dies := t.dies } t i p fun _ => [] := by
  let y := s.leaveSlotWait g.die i
  have own : y.die g.die = { s.die g.die with slotWait := (s.die g.die).slotWait.filter (· ≠ i) } :=
    (State.leaveSlotWait_die ..).trans (if_pos rfl)
  have returned := State.returnPoint_room (s := y) (i := i) (g := g) (by rw [own]; exact room) idle
  rw [own] at returned
  have disposed : s.Does ((s.leaveOwnSlotWait i).disposePoint i) (y.returnPoint i g) fun _ => [] := by
    rw [State.leaveOwnSlotWait_eq point, State.disposePoint_untouched (s := y) point untouched]
    exact State.Does.of_ports (by rw [returned]; rfl)
  have die (x : Nat) : (y.returnPoint i g).die x = if x = g.die then { s.die g.die with
      openPoints := (s.die g.die).openPoints - 1, slotWait := (s.die g.die).slotWait.filter (· ≠ i)
      freeQueue := g.block :: (s.die g.die).freeQueue
      supplyLow := if s.limits.lowWater ≤ (s.die g.die).freeQueue.length + 1 then false else (s.die g.die).supplyLow }
      else s.die x := by
    rw [returned, State.setDie_die]
    by_cases hx : x = g.die
    · rw [if_pos hx, if_pos hx]; rfl
    · rw [if_neg hx, if_neg hx]
      exact (State.unpointed_die (i := i) x).trans ((if_neg hx).trans ((State.leaveSlotWait_die ..).trans (if_neg hx)))
  have streams (n : Nat) (hn : n ≠ i) : (y.returnPoint i g).stream n = s.stream n := by
    rw [returned]; exact State.unpointed_stream hn
  have kept : y.returnPoint i g = { s.setSegment g { Segment.powerOn with state := .free } with
      dies := (y.returnPoint i g).dies, streams := (y.returnPoint i g).streams } := by rw [returned]; rfl
  generalize y.returnPoint i g = b at disposed die streams kept
  exact c.closesTo_of_kept disposed die streams kept

/-- An untouched write point, with no room in its die's free queue, is UNTRACKED (R19). -/
theorem State.closable.closes_full (c : s.closable i p) (point : (s.stream i).writePoint = some g)
    (untouched : (s.segment g).nextUnit = 0) (full : 32 ≤ (s.die g.die).freeQueue.length) :
    ∃ t : State, (∀ x, t.die x = if x = g.die then { s.die g.die with
        openPoints := (s.die g.die).openPoints - 1, slotWait := (s.die g.die).slotWait.filter (· ≠ i) } else s.die x) ∧
      s.closesTo { s.setSegment g .powerOn with dies := t.dies } t i p
        fun q => if s.coreOf g.die q = true then [.segmentReleased g] else [] := by
  let y := s.leaveSlotWait g.die i
  have own : y.die g.die = { s.die g.die with slotWait := (s.die g.die).slotWait.filter (· ≠ i) } :=
    (State.leaveSlotWait_die ..).trans (if_pos rfl)
  have core : y.coreOf g.die = s.coreOf g.die := funext fun q => State.leaveSlotWait_coreOf g.die q
  have does := (State.returnPoint_full (s := y) (i := i) (g := g) (by rw [own]; exact full)).after (s := s) rfl
  rw [core] at does
  have disposed : s.Does ((s.leaveOwnSlotWait i).disposePoint i) ((y.unpointed i g).setSegment g .powerOn)
      fun q => if s.coreOf g.die q = true then [.segmentReleased g] else [] := by
    rw [State.leaveOwnSlotWait_eq point, State.disposePoint_untouched (s := y) point untouched]
    exact does
  have die (x : Nat) : ((y.unpointed i g).setSegment g .powerOn).die x = if x = g.die then { s.die g.die with
      openPoints := (s.die g.die).openPoints - 1, slotWait := (s.die g.die).slotWait.filter (· ≠ i) } else s.die x := by
    refine (State.unpointed_die (i := i) x).trans ?_
    by_cases hx : x = g.die
    · rw [if_pos hx, if_pos hx, own]
    · rw [if_neg hx, if_neg hx]
      exact (State.leaveSlotWait_die ..).trans (if_neg hx)
  have streams (n : Nat) (hn : n ≠ i) : ((y.unpointed i g).setSegment g .powerOn).stream n = s.stream n :=
    State.unpointed_stream (s := y) hn
  have kept : (y.unpointed i g).setSegment g .powerOn = { s.setSegment g .powerOn with
      dies := ((y.unpointed i g).setSegment g .powerOn).dies
      streams := ((y.unpointed i g).setSegment g .powerOn).streams } := rfl
  generalize (y.unpointed i g).setSegment g .powerOn = b at disposed die streams kept
  exact c.closesTo_of_kept disposed die streams kept

end

/-- Settles O59, by the completion of a close for each fill of the write point, and the tests of fences and the drain. -/
theorem closesFencesAndTheDrainComplete : Obligations.ClosesFencesAndTheDrainComplete := by
  unfold Obligations.ClosesFencesAndTheDrainComplete
  intro s
  have same : settle s s = s := settle_eq_self s s fun p => by cases s.notice p <;> simp
  have fence (f : Nat) : exec (.fenceComplete f) s = .next (settle s (s.fenceTest f)) := rfl
  have drain : exec .drainComplete s = .next (settle s s.drainTest) := rfl
  refine ⟨fun i waits => ?_, ?_, fun f waits => ?_, ?_, fun hd => ?_, fun hd canonical => ⟨?_, fun all => ?_⟩⟩
  · have step : exec (.streamClosed i) s = .next (settle s (s.closeTest i)) := rfl
    have not_ready : ¬ s.closeReady i = true := by
      rw [State.closeReady_iff]
      rintro ⟨draining, no_chain, no_flight, no_report⟩
      rcases waits with h | h | h | h
      · exact h draining
      · exact h no_chain
      · exact h no_flight
      · rw [h] at no_report; cases no_report
    rw [step, State.closeTest, if_neg not_ready, same]
  · intro i p st hs hc hf hreport hr hp closes
    have c : s.closable i p := ⟨State.closeReady_iff.mpr ⟨hs, hc, hf, hreport⟩, hr, hp⟩
    refine ⟨fun no_point => ?_, ?_⟩
    · have disposed : s.Does ((s.leaveOwnSlotWait i).disposePoint i) s fun _ => [] := by
        rw [State.disposePoint_none no_point]; exact State.Does.refl s
      exact c.closesTo disposed (fun _ _ => rfl) rfl rfl rfl
    · intro g point seg die short onDie core opened owner
      exact ⟨c.closes_touched point opened owner, c.closes_room point, c.closes_full point⟩
  · rcases waits with none_ | some_
    · rw [fence, State.fenceTest_none none_, same]
    · rw [fence, State.fenceTest_waits some_, same]
  · intro f m p fr hf hout
    obtain ⟨no_answer, delivers, rest⟩ := settle_does (State.fenceTest_completes hout hf)
    exact ⟨_, fence f, no_answer, rest, delivers⟩
  · have stays : s.drainTest = s := if_neg (by simp [hd])
    rw [drain, stays, same]
  · rintro ⟨r, chained, not_halted⟩
    rw [drain, State.drainTest_waits chained not_halted, same]
  · have does := State.completeDrain_does s s.chainedCount
    rw [← State.drainTest_completes hd canonical all] at does
    obtain ⟨no_answer, delivers, rest⟩ := settle_does does
    exact ⟨_, drain, no_answer, rest, delivers⟩

end Sys2Proof.Machine
end

section
/-! Retirement (R54, R55) of a whole chain, and what a discard marking gives up (R52): the settlement of O27 (R121) and O31
(R153). -/

namespace Sys2Proof.Machine

/-! ### One record retires and is reported (R54, R55) -/

theorem State.setRecord_setRecord (s : State) (r : Nat) {v : Fragment} (w : Fragment) (h : v ≠ .powerOn) :
    (s.setRecord r v).setRecord r w = s.setRecord r w := by
  simp only [State.setRecord, Table.write_write _ _ _ _ _ h]

/-- The port a class reports its records on (R55). -/
def StreamClass.port : StreamClass → Port
  | .tenant => .fp
  | .reclaim => .rp

/-- A record's origin is of a class, a TENANT one of function f. -/
def Origin.isOf (o : Origin) (cls : StreamClass) (f : Nat) : Prop :=
  match cls with
  | .tenant => ∃ a, o = .tenant f a
  | .reclaim => o = .reclaim

/-- A record of a class is FREE again, and no consequence follows. -/
def State.freed (s : State) (cls : StreamClass) (f r : Nat) : State :=
  match cls with
  | .tenant => s.freedTenant r f
  | .reclaim => s.freedReclaim r

/-- A freed record of a class, a TENANT one of function f, has no consequence (R41, R156). -/
def State.freesQuietly (s : State) (cls : StreamClass) (f : Nat) : Prop :=
  match cls with
  | .tenant => (s.function f).fence = none ∧ ∀ g n, (s.function g).wait ≠ .records n
  | .reclaim => ∀ n, s.budget.reclaimWait ≠ .records n

/-- The head record of stream i has left the chain. -/
def State.unchained (s : State) (i : Nat) : State := s.setStream i { s.stream i with chain := (s.stream i).chain.tail }

section
variable {s : State} {i r f : Nat} {cls : StreamClass}

theorem State.report_quiet {status : RetireStatus} (hc : (s.record r).condition = .pendingReport status)
    (ho : (s.record r).origin.isOf cls f) (hf : s.freesQuietly cls f)
    (hs : (s.stream (s.record r).stream).state ≠ .draining) (room : s.hasRoom cls.port = true) :
    s.report (.fragment r) = ((s.unlisted (.fragment r)).freed cls f r).emit cls.port
      (.fragmentDone (s.record r).tag (s.record r).stream status) := by
  cases cls with
  | tenant =>
    obtain ⟨a, ho⟩ := ho
    exact State.report_tenant hc ho (.inl hf.1) hf.2 hs room
  | reclaim => exact State.report_reclaim hc ho hf hs room

theorem State.reportPort_of (ho : (s.record r).origin.isOf cls f) : s.reportPort (.fragment r) = cls.port := by
  cases cls with
  | tenant => obtain ⟨a, ho⟩ := ho; exact State.reportPort_tenant ho
  | reclaim => exact State.reportPort_reclaim ho

theorem State.unchained_state (n : Nat) : ((s.unchained i).stream n).state = (s.stream n).state := by
  rw [State.unchained, State.setStream_stream]
  split
  · rename_i h; rw [h]
  · rfl

/-- A record that was there does not matter to what its release leaves. -/
theorem State.setRecord_freed {v : Fragment} (hv : v ≠ .powerOn) : (s.setRecord r v).freed cls f r = s.freed cls f r := by
  have merged := State.setRecord_setRecord s r .powerOn hv
  cases cls with
  | tenant =>
    show ({ ((s.setRecord r v).setRecord r .powerOn).setFunction f _ with tenantInUse := _ } : State) = _
    rw [merged]; rfl
  | reclaim =>
    show ({ (s.setRecord r v).setRecord r .powerOn with reclaimInUse := _ } : State) = _
    rw [merged]; rfl

theorem State.freesQuietly_congr {t : State} (hf : s.freesQuietly cls f) (functions : t.functions = s.functions)
    (budget : t.budget = s.budget) : t.freesQuietly cls f := by
  have function (g : Nat) : t.function g = s.function g := congrArg (Table.read Function.powerOn · g) functions
  cases cls with
  | tenant =>
    obtain ⟨fence, waits⟩ := hf
    exact ⟨by rw [function]; exact fence, fun g n => by rw [function]; exact waits g n⟩
  | reclaim =>
    intro n
    rw [budget]
    exact hf n

/-- A record that waits to be reported. -/
def Fragment.pending (v : Fragment) : Fragment := { v with condition := .pendingReport v.retireStatus }

theorem Fragment.pending_ne (v : Fragment) : v.pending ≠ .powerOn := fun same => by
  have condition := congrArg Fragment.condition same
  cases condition

/-- Record r is off its chain and the only completion that waits. -/
def State.retiring (s : State) (i r : Nat) : State :=
  { (s.unchained i).setRecord r (s.record r).pending with reports := [.fragment r] }

theorem State.retiring_record : (s.retiring i r).record r = (s.record r).pending := State.setRecord_record_same ..

theorem State.retiring_origin (ho : (s.record r).origin.isOf cls f) : ((s.retiring i r).record r).origin.isOf cls f := by
  rw [State.retiring_record]; exact ho

theorem State.retireHead_only (ho : (s.record r).origin.isOf cls f) (none_waits : s.reports = [])
    (room : s.hasRoom cls.port = true) : s.retireHead i r = (s.retiring i r).report (.fragment r) :=
  State.addReport_only (s := (s.unchained i).setRecord r (s.record r).pending) (c := .fragment r) none_waits (by
    have port : ((s.unchained i).setRecord r (s.record r).pending).reportPort (.fragment r) = cls.port :=
      State.reportPort_of (s := s.retiring i r) (State.retiring_origin ho)
    rw [port]; exact room)

theorem State.retiring_unlisted (none_waits : s.reports = []) :
    (s.retiring i r).unlisted (.fragment r) = (s.unchained i).setRecord r (s.record r).pending := by
  have left : ([Completion.fragment r] : List Completion).erase (.fragment r) = s.reports := by
    rw [List.erase_cons_head, none_waits]
  rw [State.unlisted, State.retiring, left]
  rfl

/-- R54, R55: the head record retires, is reported at once and is FREE. -/
theorem State.retireHead_quiet (ho : (s.record r).origin.isOf cls f) (hf : s.freesQuietly cls f)
    (hs : (s.stream (s.record r).stream).state ≠ .draining) (none_waits : s.reports = []) (room : s.hasRoom cls.port = true) :
    s.retireHead i r = ((s.unchained i).freed cls f r).emit cls.port
      (.fragmentDone (s.record r).tag (s.record r).stream (s.record r).retireStatus) := by
  have reported := State.report_quiet (s := s.retiring i r) (r := r) (status := (s.record r).retireStatus)
    (by rw [State.retiring_record]; rfl) (State.retiring_origin ho) (State.freesQuietly_congr hf rfl rfl)
    (by rw [State.retiring_record]; exact (State.unchained_state _).trans_ne hs) room
  rw [State.retireHead_only ho none_waits room, reported, State.retiring_unlisted none_waits,
    State.setRecord_freed (Fragment.pending_ne _), State.retiring_record]
  rfl

/-! ### A chain retires (R54) -/

/-- Every record of the list is of the class, of stream i, and all that it holds is durable or given up. -/
def State.retires (s : State) (i : Nat) (cls : StreamClass) (f : Nat) (rs : List Nat) : Prop :=
  ∀ r ∈ rs, (s.record r).origin.isOf cls f ∧ (s.record r).stream = i ∧ (s.record r).durable = (s.record r).stop

/-- The event of a record that retires. -/
def State.retireEvent (s : State) (r : Nat) : Event :=
  .fragmentDone (s.record r).tag (s.record r).stream (s.record r).retireStatus

/-- A state with the tables, ports and counts that retirement changes. -/
def State.retiredTo (s t : State) (tenant reclaim : Nat) : State :=
  { s with streams := t.streams, records := t.records, functions := t.functions, ports := t.ports
           tenantInUse := tenant, reclaimInUse := reclaim }

/-- Between s and t the records rs of stream i's chain retired, of a class, a TENANT one of function f; `left` is left. -/
structure State.retired (s t : State) (i : Nat) (cls : StreamClass) (f : Nat) (rs left : List Nat) : Prop where
  rest : t = s.retiredTo t (if cls = .tenant then s.tenantInUse - rs.length else s.tenantInUse)
    (if cls = .tenant then s.reclaimInUse else s.reclaimInUse - rs.length)
  stream : ∀ n, t.stream n = if n = i then { s.stream i with chain := left } else s.stream n
  record : ∀ r, t.record r = if r ∈ rs then .powerOn else s.record r
  function : ∀ g, t.function g = if cls = .tenant ∧ g = f then
    { s.function f with outstanding := (s.function f).outstanding - rs.length } else s.function g
  kept : cls = .reclaim → t.functions = s.functions
  sends : s.sends t fun p => if p = cls.port then rs.map s.retireEvent else []

theorem State.retired_nil (chain : (s.stream i).chain = []) : s.retired s i cls f [] [] where
  rest := by cases cls <;> rfl
  stream n := by
    split
    · rename_i h; rw [h, ← chain]
    · rfl
  record r := by simp
  function g := by
    split
    · rename_i h; rw [h.2]; rfl
    · rfl
  kept _ := rfl
  sends := by
    have none_told : (fun p => if p = cls.port then [].map s.retireEvent else []) = fun _ => [] := by
      funext p; simp
    rw [none_told]
    exact State.sends_of_ports rfl

theorem State.retired.cons {y t : State} {rs left left' : List Nat} (h : s.retired y i cls f [r] left) (fresh : r ∉ rs)
    (h' : y.retired t i cls f rs left') : s.retired t i cls f (r :: rs) left' where
  rest := by
    have tenant : y.tenantInUse = if cls = .tenant then s.tenantInUse - 1 else s.tenantInUse := by rw [h.rest]; rfl
    have reclaim : y.reclaimInUse = if cls = .tenant then s.reclaimInUse else s.reclaimInUse - 1 := by rw [h.rest]; rfl
    have counted := h'.rest
    have over_s (a b : Nat) : y.retiredTo t a b = s.retiredTo t a b := by
      have both := congrArg (State.retiredTo · t a b) h.rest
      exact both
    rw [tenant, reclaim, over_s] at counted
    refine counted.trans (congrArg₂ (s.retiredTo t) ?_ ?_)
    · cases cls
      · simp only [if_true, List.length_cons]; omega
      · rfl
    · cases cls
      · rfl
      · simp only [reduceCtorEq, if_false, List.length_cons]; omega
  stream n := by
    rw [h'.stream, h.stream, h.stream]
    by_cases hn : n = i
    · simp [hn]
    · simp [hn]
  record x := by
    rw [h'.record, h.record]
    by_cases hx : x = r
    · simp [hx]
    · simp [hx]
  function g := by
    rw [h'.function, h.function, h.function]
    by_cases hg : cls = .tenant ∧ g = f
    · simp only [hg, and_self, if_true, List.length_cons, List.length_nil, Nat.sub_sub]
      rw [Nat.add_comm]
    · simp only [hg, if_false]
  kept hc := (h'.kept hc).trans (h.kept hc)
  sends := by
    have told : (fun p => if p = cls.port then (r :: rs).map s.retireEvent else []) = fun p =>
        (if p = cls.port then [r].map s.retireEvent else []) ++ if p = cls.port then rs.map y.retireEvent else [] := by
      funext p
      have same : rs.map y.retireEvent = rs.map s.retireEvent := List.map_congr_left fun x hx => by
        have other : x ∉ [r] := fun hx' => fresh (List.mem_singleton.mp hx' ▸ hx)
        rw [State.retireEvent, State.retireEvent, h.record, if_neg other]
      rw [same]
      split <;> rfl
    rw [told]
    exact h.sends.trans h'.sends

theorem State.retired.freesQuietly {t : State} {rs left : List Nat} (h : s.retired t i cls f rs left)
    (hf : s.freesQuietly cls f) : t.freesQuietly cls f := by
  cases cls with
  | tenant =>
    obtain ⟨fence, waits⟩ := hf
    refine ⟨?_, fun g n => ?_⟩
    · rw [h.function, if_pos ⟨rfl, rfl⟩]; exact fence
    · rw [h.function]
      split
      · exact waits f n
      · exact waits g n
  | reclaim =>
    intro n
    rw [h.rest]
    exact hf n

theorem State.freed_rest : s.freed cls f r = { s with
    records := (s.freed cls f r).records, functions := (s.freed cls f r).functions
    tenantInUse := if cls = .tenant then s.tenantInUse - 1 else s.tenantInUse
    reclaimInUse := if cls = .tenant then s.reclaimInUse else s.reclaimInUse - 1 } := by
  cases cls <;> rfl

theorem State.freed_record (x : Nat) : (s.freed cls f r).record x = if x = r then .powerOn else s.record x := by
  cases cls <;> exact State.setRecord_record ..

theorem State.freed_function (g : Nat) : (s.freed cls f r).function g = if cls = .tenant ∧ g = f then
    { s.function f with outstanding := (s.function f).outstanding - 1 } else s.function g := by
  cases cls with
  | tenant => simp only [true_and]; exact State.setFunction_function ..
  | reclaim => simp only [reduceCtorEq, false_and, if_false]; rfl

theorem State.retireHead_retired {rs : List Nat} (chain : (s.stream i).chain = r :: rs)
    (ho : (s.record r).origin.isOf cls f) (hi : (s.record r).stream = i) (hf : s.freesQuietly cls f)
    (hs : (s.stream i).state ≠ .draining) (none_waits : s.reports = []) (room : s.hasRoom cls.port = true) :
    s.retired (s.retireHead i r) i cls f [r] rs := by
  have base := State.freed_rest (s := s.unchained i) (cls := cls) (f := f) (r := r)
  have ports : ((s.unchained i).freed cls f r).ports = s.ports := by rw [base]; rfl
  have head := State.retireHead_quiet (i := i) ho hf (by rw [hi]; exact hs) none_waits room
  have does := (State.Does.of_ports (s := s) ports).emit cls.port (s.retireEvent r)
  rw [show ((s.unchained i).freed cls f r).emit cls.port (s.retireEvent r) = s.retireHead i r from head.symm] at does
  generalize s.retireHead i r = y at does
  have kept := does.rest
  have streams : y.streams = (s.unchained i).streams := by rw [kept, base]
  have records : y.records = ((s.unchained i).freed cls f r).records := by rw [kept]
  have functions : y.functions = ((s.unchained i).freed cls f r).functions := by rw [kept]
  refine ⟨?_, fun n => ?_, fun x => ?_, fun g => ?_, fun hc => ?_, ?_⟩
  · have both := congrArg (State.withPorts · y.ports) base
    rw [State.retiredTo, streams, records, functions]
    exact kept.trans both
  · have stream : y.stream n = (s.unchained i).stream n := congrArg (Table.read Stream.powerOn · n) streams
    rw [stream, State.unchained, State.setStream_stream, chain, List.tail_cons]
  · have record : y.record x = ((s.unchained i).freed cls f r).record x := congrArg (Table.read Fragment.powerOn · x) records
    rw [record, State.freed_record]
    by_cases hx : x = r
    · simp [hx]
    · simp [hx]; rfl
  · have function : y.function g = ((s.unchained i).freed cls f r).function g :=
      congrArg (Table.read Function.powerOn · g) functions
    rw [function, State.freed_function]
    rfl
  · rw [functions, hc]
    rfl
  · exact does.sends

theorem State.retireFor_chain (rs : List Nat) (chain : (s.stream i).chain = rs) (distinct : rs.Nodup)
    (all : s.retires i cls f rs) (hf : s.freesQuietly cls f) (hs : (s.stream i).state ≠ .draining)
    (none_waits : s.reports = []) (room : (s.port cls.port).events.length + rs.length ≤ eventCapacity cls.port) :
    (State.retireFor rs.length s i).2 = rs.length ∧ s.retired (State.retireFor rs.length s i).1 i cls f rs [] := by
  induction rs generalizing s with
  | nil => exact ⟨rfl, State.retired_nil chain⟩
  | cons r rs ih =>
    obtain ⟨fresh, distinct⟩ := List.nodup_cons.mp distinct
    obtain ⟨ho, hi, durable⟩ := all r List.mem_cons_self
    have has_room : s.hasRoom cls.port = true := decide_eq_true (by rw [List.length_cons] at room; omega)
    have head := State.retireHead_retired chain ho hi hf hs none_waits has_room
    have step : State.retireFor (r :: rs).length s i = ((State.retireFor rs.length (s.retireHead i r) i).1,
        (State.retireFor rs.length (s.retireHead i r) i).2 + 1) := by
      simp only [List.length_cons, State.retireFor, chain, durable, if_true]
    rw [step]
    generalize s.retireHead i r = y at head
    have own : y.stream i = { s.stream i with chain := rs } := (head.stream i).trans (if_pos rfl)
    have kept {x : Nat} (hx : x ∈ rs) : y.record x = s.record x :=
      (head.record x).trans (if_neg fun hx' => fresh (by rw [← List.mem_singleton.mp hx']; exact hx))
    have events : (y.port cls.port).events.length = (s.port cls.port).events.length + 1 := by
      have told := head.sends cls.port
      simp only [if_true] at told
      rw [told, PortState.receives]
      have fits : (s.port cls.port).events.length < eventCapacity cls.port := by rw [List.length_cons] at room; omega
      simp only [List.map_cons, List.map_nil, List.length_append, List.length_take, List.length_singleton]
      omega
    obtain ⟨count, run⟩ := ih (s := y) (by rw [own]) distinct (fun x hx => by
      rw [kept hx]; exact all x (List.mem_cons_of_mem _ hx)) (head.freesQuietly hf) (by rw [own]; exact hs)
      (by rw [head.rest]; exact none_waits) (by rw [events]; rw [List.length_cons] at room; omega)
    exact ⟨by rw [count]; rfl, head.cons fresh run⟩

/-- A flush of the function waits for nothing that a run of retirement can change. -/
def State.flushesQuietly (s : State) (cls : StreamClass) (f : Nat) : Prop := cls = .tenant → (s.function f).flush = .none

theorem State.flushTest_none (h : (s.function f).flush = .none) : s.flushTest f = s := by
  simp only [State.flushTest, h]

theorem State.afterRun_quiet (h : s.flushesQuietly cls f) (n : Nat) : s.afterRun cls f n = s := by
  unfold State.afterRun
  split
  · rfl
  · cases cls with
    | tenant => exact State.flushTest_none (h rfl)
    | reclaim => rfl

/-- R54: the whole chain of a stream retires in one run. -/
theorem State.retire_chain {rs : List Nat} (chain : (s.stream i).chain = rs) (class_eq : (s.stream i).cls = cls)
    (owner : (s.stream i).owner = f) (distinct : rs.Nodup) (all : s.retires i cls f rs) (hf : s.freesQuietly cls f)
    (flush : s.flushesQuietly cls f) (hs : (s.stream i).state ≠ .draining) (none_waits : s.reports = [])
    (room : (s.port cls.port).events.length + rs.length ≤ eventCapacity cls.port) :
    s.retired (s.retire i).1 i cls f rs [] := by
  obtain ⟨-, run⟩ := State.retireFor_chain rs chain distinct all hf hs none_waits room
  have eq : (s.retire i).1 =
      (State.retireFor rs.length s i).1.afterRun cls f (State.retireFor rs.length s i).2 := by
    rw [← chain, ← class_eq, ← owner]; rfl
  have kept : (State.retireFor rs.length s i).1.flushesQuietly cls f := fun h => by
    rw [run.function]
    split <;> exact flush h
  rw [eq, State.afterRun_quiet kept]
  exact run

/-! ### What a release of a class changes where nothing waits (R38, R39) -/

/-- No BUDGET wait or RECORDS wait of a class stands. -/
def State.calmWaits (s : State) (cls : StreamClass) : Prop :=
  match cls with
  | .tenant => ∀ g, (s.function g).wait = .none
  | .reclaim => s.budget.reclaimWait = .none

/-- k sectors of a class have left the budget, TENANT ones those of function f. -/
def State.released (s : State) (cls : StreamClass) (f k : Nat) : State :=
  match cls with
  | .tenant => s.lowerHeld f k
  | .reclaim => s.setBudget { s.budget with reclaimHeld := s.budget.reclaimHeld - k }

theorem State.lowerHeld_function (k g : Nat) : (s.lowerHeld f k).function g =
    if g = f then { s.function f with held := (s.function f).held - k } else s.function g := State.setFunction_function ..

theorem State.lowerHeld_budget (k : Nat) (h : (s.function f).state ≠ .disabled) : (s.lowerHeld f k).budget = { s.budget with
    total := s.budget.total - k
    unused := s.budget.unused + (((s.function f).reserve - ((s.function f).held - k)) -
      ((s.function f).reserve - (s.function f).held)) } := by
  simp only [State.lowerHeld, Function.term, Function.spare, h, if_false]
  rfl

theorem State.releaseStream_quiet (k : Nat) (h : s.calmWaits (s.stream i).cls) :
    s.releaseStream i k = s.released (s.stream i).cls (s.stream i).owner k := by
  cases hc : (s.stream i).cls with
  | tenant =>
    rw [hc] at h
    simp only [State.releaseStream, hc]
    refine State.openBudgetWaits_none fun g n => ?_
    rw [State.lowerHeld_function]
    split <;> simp [h _]
  | reclaim =>
    rw [hc] at h
    have still : (s.setBudget { s.budget with reclaimHeld := s.budget.reclaimHeld - k }).budget.reclaimWait = .none := h
    simp only [State.releaseStream, hc, State.releaseReclaim, State.openReclaimBudgetWait, still]
    rfl

/-! ### A discard marking (R52) -/

/-- The given records are marked where their placed sectors end. -/
def State.marked (s : State) (rs : List Nat) : State := rs.foldl State.markRecord s

theorem State.marked_rest (rs : List Nat) : s.marked rs = { s with records := (s.marked rs).records } := by
  induction rs generalizing s with
  | nil => rfl
  | cons r rs ih =>
    exact ih (s := s.markRecord r)

theorem State.marked_record (rs : List Nat) (x : Nat) : (s.marked rs).record x =
    if x ∈ rs then { s.record x with mark := some (s.record x).placed } else s.record x := by
  induction rs generalizing s with
  | nil => simp [State.marked]
  | cons r rs ih =>
    have step : s.marked (r :: rs) = (s.markRecord r).marked rs := rfl
    rw [step, ih, State.markRecord, State.setRecord_record]
    by_cases hx : x = r
    · subst hx; simp
    · simp [hx]

theorem State.marked_uncut {rs : List Nat} (chain : (s.stream i).chain = rs) : (s.marked rs).uncut i = 0 := by
  have same : (s.marked rs).stream i = s.stream i := by rw [State.marked_rest]; rfl
  rw [State.uncut, same, chain]
  refine List.sum_eq_zero fun n hn => ?_
  obtain ⟨r, hr, rfl⟩ := List.mem_map.mp hn
  rw [State.marked_record, if_pos hr]
  exact Nat.sub_self _

theorem State.released_uncut (k n : Nat) : (s.released cls f k).uncut n = s.uncut n := by
  cases cls <;> rfl

theorem State.released_stream (k n : Nat) : (s.released cls f k).stream n = s.stream n := by
  cases cls <;> rfl

/-- Stream i with its records marked and its uncut sectors released (R121 step 1). -/
def State.givenUp (s : State) (i : Nat) : State :=
  (((s.marked (s.stream i).chain).released (s.stream i).cls (s.stream i).owner (s.uncut i)).setStream i
    { s.stream i with sealing := .disarmed })

theorem State.setLink_events (p : Port) (l : Link) (q : Port) : ((s.setLink p l).port q).events = (s.port q).events := by
  rw [State.setLink_port]
  split
  · rename_i h; rw [h]
  · rfl

/-- R52: every record of the chain is marked, and nothing is uncut any more. -/
theorem State.discardMarks_chain (calm : s.calmWaits (s.stream i).cls) :
    s.discardMarks i (s.stream i).chain = (s.givenUp i, s.uncut i) := by
  have same (n : Nat) : (s.marked (s.stream i).chain).stream n = s.stream n := by rw [State.marked_rest]; rfl
  have uncut : ((s.stream i).chain.map fun r => (s.record r).uncut).sum = s.uncut i := rfl
  have still : (s.marked (s.stream i).chain).calmWaits ((s.marked (s.stream i).chain).stream i).cls := by
    rw [same]
    rw [State.marked_rest]
    exact calm
  have release : ((s.stream i).chain.foldl State.markRecord s).releaseStream i (s.uncut i) =
      (s.marked (s.stream i).chain).released (s.stream i).cls (s.stream i).owner (s.uncut i) := by
    have quiet := State.releaseStream_quiet (s.uncut i) still
    rw [same] at quiet
    exact quiet
  have gone : ((s.marked (s.stream i).chain).released (s.stream i).cls (s.stream i).owner (s.uncut i)).uncut i = 0 := by
    rw [State.released_uncut, State.marked_uncut rfl]
  have own : ((s.marked (s.stream i).chain).released (s.stream i).cls (s.stream i).owner (s.uncut i)).stream i =
      s.stream i := (State.released_stream _ _).trans (same i)
  simp only [State.discardMarks, uncut, release, gone, own, if_true, State.givenUp]

theorem State.givenUp_record (x : Nat) : (s.givenUp i).record x = (s.marked (s.stream i).chain).record x := by
  cases h : (s.stream i).cls <;> simp only [State.givenUp, h] <;> rfl

theorem State.givenUp_ports : (s.givenUp i).ports = s.ports := by
  have marks : (s.marked (s.stream i).chain).ports = s.ports := by rw [State.marked_rest]
  cases h : (s.stream i).cls <;> simp only [State.givenUp, h] <;> exact marks

/-- A record that is given up and all of whose placed sectors are durable retires DISCARDED. -/
theorem State.givenUp_retireEvent {x : Nat} (hx : x ∈ (s.stream i).chain) (hi : (s.record x).stream = i) :
    (s.givenUp i).retireEvent x = .fragmentDone (s.record x).tag i .discarded := by
  rw [State.retireEvent, State.givenUp_record, State.marked_record, if_pos hx, hi]
  rfl

/-- What an accepted DISCARD STREAM does after its marking (R121). -/
theorem State.discard_of {m : State} {k : Nat} (h : s.discardMarks i (s.stream i).chain = (m, k)) : s.discard i =
    (((((m.retire i).1.leaveHalt i).setStream i { ((m.retire i).1.leaveHalt i).stream i with sealing := .disarmed }).test
      i).drainTest, k) := by
  simp only [State.discard, h]

theorem State.drainTest_off (h : s.device ≠ .drain) : s.drainTest = s := by
  rw [State.drainTest, if_neg (by simp [h])]

theorem State.released_outer (k : Nat) : (s.released cls f k).outer = s.outer := by cases cls <;> rfl

theorem State.released_record (k x : Nat) : (s.released cls f k).record x = s.record x := by cases cls <;> rfl

theorem State.released_ports (k : Nat) : (s.released cls f k).ports = s.ports := by cases cls <;> rfl

theorem State.released_reports (k : Nat) : (s.released cls f k).reports = s.reports := by cases cls <;> rfl

theorem State.released_function (k g : Nat) : (s.released cls f k).function g = if cls = .tenant ∧ g = f then
    { s.function f with held := (s.function f).held - k } else s.function g := by
  cases cls with
  | tenant => simp only [true_and]; exact State.lowerHeld_function k g
  | reclaim => simp only [reduceCtorEq, false_and, if_false]; rfl

theorem State.released_freesQuietly (k : Nat) (calm : s.calmWaits cls) (fence : cls = .tenant → (s.function f).fence = none) :
    (s.released cls f k).freesQuietly cls f := by
  cases cls with
  | tenant =>
    refine ⟨?_, fun g n => ?_⟩
    · rw [State.released_function, if_pos ⟨rfl, rfl⟩]
      exact fence rfl
    · rw [State.released_function]
      have none_waits (x : Nat) : (s.function x).wait = .none := calm x
      split <;> simp [none_waits]
  | reclaim =>
    intro n
    have none_waits : s.budget.reclaimWait = .none := calm
    simp [State.released, State.setBudget, none_waits]

/-- Stream i after an accepted DISCARD STREAM (R121). -/
def Stream.discarded (st : Stream) : Stream := { st with state := .idle, failures := 0, sealing := .disarmed, chain := [] }

/-- A HALTED stream whose placed sectors are all durable, and whose records retire without consequence and with room. -/
structure State.givesUp (s : State) (i : Nat) : Prop where
  halted : (s.stream i).state = .halted
  distinct : (s.stream i).chain.Nodup
  records : ∀ r ∈ (s.stream i).chain, (s.record r).origin.isOf (s.stream i).cls (s.stream i).owner ∧
    (s.record r).stream = i ∧ (s.record r).durable = (s.record r).placed
  calm : s.calmWaits (s.stream i).cls
  quiet : (s.stream i).cls = .tenant → (s.function (s.stream i).owner).fence = none ∧
    (s.function (s.stream i).owner).flush = .none
  reports : s.reports = []
  room : (s.port (s.stream i).cls.port).events.length + (s.stream i).chain.length ≤ eventCapacity (s.stream i).cls.port

theorem State.givesUp.setLink (h : s.givesUp i) (p : Port) (l : Link) : (s.setLink p l).givesUp i := by
  obtain ⟨halted, distinct, records, calm, quiet, reports, room⟩ := h
  refine ⟨halted, distinct, records, calm, quiet, reports, ?_⟩
  rw [State.setLink_events]
  exact room

/-- R121: the chain of a HALTED stream is given up, retires and is reported; the drain does not go on. -/
theorem State.discard_quiet (hd : s.device = .run) (h : s.givesUp i) :
    ∃ y, (s.givenUp i).retired y i (s.stream i).cls (s.stream i).owner (s.stream i).chain [] ∧
      s.discard i = (y.setStream i (s.stream i).discarded, s.uncut i) := by
  obtain ⟨halted, distinct, all, calm, quiet, none_waits, room⟩ := h
  have marks : (s.marked (s.stream i).chain) = { s with records := _ } := State.marked_rest _
  have own : (s.givenUp i).stream i = { s.stream i with sealing := .disarmed } := State.setStream_stream_same ..
  have record (x : Nat) : (s.givenUp i).record x = (s.marked (s.stream i).chain).record x := State.released_record _ _
  have calm' : (s.marked (s.stream i).chain).calmWaits (s.stream i).cls := by rw [marks]; exact calm
  have fence : (s.stream i).cls = .tenant →
      ((s.marked (s.stream i).chain).function (s.stream i).owner).fence = none := fun h => by
    rw [marks]; exact (quiet h).1
  have frees : (s.givenUp i).freesQuietly (s.stream i).cls (s.stream i).owner :=
    State.freesQuietly_congr (State.released_freesQuietly (s.uncut i) calm' fence) rfl rfl
  have flush : (s.givenUp i).flushesQuietly (s.stream i).cls (s.stream i).owner := fun h => by
    have kept : (s.givenUp i).function (s.stream i).owner = _ := State.released_function _ _
    rw [kept, marks]
    split <;> exact (quiet h).2
  have gone : (s.givenUp i).reports = [] :=
    (State.released_reports (s := s.marked (s.stream i).chain) _).trans (by rw [marks]; exact none_waits)
  have ports : (s.givenUp i).ports = s.ports :=
    (State.released_ports (s := s.marked (s.stream i).chain) _).trans (by rw [marks])
  have run := State.retire_chain (s := s.givenUp i) (i := i) (cls := (s.stream i).cls) (f := (s.stream i).owner)
    (rs := (s.stream i).chain) (by rw [own]) (by rw [own]) (by rw [own]) distinct (fun r hr => by
      obtain ⟨origin, stream, durable⟩ := all r hr
      rw [record, State.marked_record, if_pos hr]
      exact ⟨origin, stream, durable⟩) frees flush (by rw [own]; simp [halted]) gone
    (by rw [State.port, ports]; exact room)
  refine ⟨_, run, ?_⟩
  rw [State.discard_of (State.discardMarks_chain calm)]
  generalize ((s.givenUp i).retire i).1 = y at run
  have left : y.stream i = { s.stream i with sealing := .disarmed, chain := [] } := by
    rw [run.stream, if_pos rfl, own]
  have settled : (y.leaveHalt i).setStream i { (y.leaveHalt i).stream i with sealing := .disarmed } =
      y.setStream i (s.stream i).discarded := by
    rw [State.leaveHalt, State.setStream_setStream _ _ _ (by simp), State.setStream_stream_same, left]
    rfl
  have empty : (y.setStream i (s.stream i).discarded).uncut i = 0 := by
    rw [State.uncut, State.setStream_stream_same]; rfl
  have running : (y.setStream i (s.stream i).discarded).device ≠ .drain := by
    have device : y.device = s.device := by
      rw [run.rest]
      exact (congrArg Control.device (State.outer_control (State.released_outer (s := s.marked (s.stream i).chain) _))).trans
        (by rw [marks])
    exact device.trans_ne (by simp [hd])
  rw [settled, State.test_idle (State.cutDue_none empty), State.drainTest_off running]

end

/-! ### DISCARD STREAM (R121) -/

section
variable {s : State} {v : Via} {stream : Half}

theorem discardStreamAct_eq (hw : s.working = true) : discardStreamAct stream s =
    if 1023 < stream.toNat then s.refuse .range
    else if (s.stream stream.toNat).state ≠ .halted then s.refuse .state
    else ⟨.ok, two (s.stream stream.toNat).chain.length ++ two (s.discard stream.toNat).2, (s.discard stream.toNat).1⟩ := by
  rw [discardStreamAct, State.whileHalted_eq stream _ hw]

/-- R121 as a request: the stream is given up and the answer counts what left. -/
theorem exec_discardStream (hr : s.reaches (.discardStream v stream) = true) (hd : s.device = .run)
    (hi : stream.toNat ≤ 1023) (h : s.givesUp stream.toNat) : ∃ t y : State,
    exec (.discardStream v stream) s = .next t ∧
    s.hasAnswer t (.discardStream v stream) .ok
      (two (s.stream stream.toNat).chain.length ++ two (s.uncut stream.toNat)) ∧
    ((s.setLink v.port .taken).givenUp stream.toNat).retired y stream.toNat (s.stream stream.toNat).cls
      (s.stream stream.toNat).owner (s.stream stream.toNat).chain [] ∧
    t = (y.setStream stream.toNat (s.stream stream.toNat).discarded).withPorts t.ports ∧
    s.tells t fun p => if p = (s.stream stream.toNat).cls.port then
      (s.stream stream.toNat).chain.map fun r => .fragmentDone (s.record r).tag stream.toNat .discarded else [] := by
  obtain ⟨y, run, eq⟩ := State.discard_quiet (s := s.setLink v.port .taken) hd (h.setLink v.port .taken)
  have act : requestAct (.discardStream v stream) (s.setLink v.port .taken) =
      ⟨.ok, two (s.stream stream.toNat).chain.length ++ two (s.uncut stream.toNat),
        y.setStream stream.toNat (s.stream stream.toNat).discarded⟩ := by
    have act := discardStreamAct_eq (s := s.setLink v.port .taken) (stream := stream)
      (by simp only [State.working, State.device] at hd ⊢; simp [hd])
    rw [if_neg hi.not_gt, if_neg (not_not.mpr (h.setLink v.port .taken).halted), eq] at act
    exact act
  have does : (s.setLink v.port .taken).Does (y.setStream stream.toNat (s.stream stream.toNat).discarded)
      (y.setStream stream.toNat (s.stream stream.toNat).discarded) _ :=
    ⟨rfl, (State.sends_of_ports State.givenUp_ports).trans run.sends⟩
  obtain ⟨t, executed, answer, delivers, rest⟩ := exec_answers hr act does
  refine ⟨t, y, executed, answer, run, rest, (delivers.congr fun p => ?_).tells fun p told => ?_⟩
  · rw [List.nil_append]
    refine if_congr Iff.rfl (List.map_congr_left fun r hr => ?_) rfl
    exact State.givenUp_retireEvent hr (h.records r hr).2.1
  · split at told
    · rename_i hp
      rw [hp, if_pos rfl, List.length_map]
      exact h.room
    · exact absurd rfl told

end

section
variable {s y : State} {i : Nat} {p : Port} {l : Link}

/-- What R121 leaves of the state, read back from the retirement of the chain. -/
theorem State.discarded_record (h : ((s.setLink p l).givenUp i).retired y i (s.stream i).cls (s.stream i).owner
    (s.stream i).chain []) (r : Nat) : y.record r = if r ∈ (s.stream i).chain then .powerOn else s.record r := by
  rw [h.record]
  split
  · rfl
  · rename_i other
    rw [State.givenUp_record, State.marked_record]
    exact if_neg other

theorem State.discarded_stream (h : ((s.setLink p l).givenUp i).retired y i (s.stream i).cls (s.stream i).owner
    (s.stream i).chain []) (n : Nat) : (y.setStream i (s.stream i).discarded).stream n =
      if n = i then (s.stream i).discarded else s.stream n := by
  rw [State.setStream_stream]
  split
  · rfl
  · rename_i other
    rw [h.stream, if_neg other, State.givenUp, State.setStream_stream, if_neg other, State.released_stream,
      State.marked_rest]
    rfl

/-- A state with the tables and the budget that a release changes. -/
def State.givenTo (s t : State) : State :=
  { s with streams := t.streams, records := t.records, functions := t.functions, budget := t.budget }

theorem State.givenUp_rest (s : State) (i : Nat) : s.givenUp i = s.givenTo (s.givenUp i) := by
  have own : s.givenUp i = (s.marked (s.stream i).chain).givenTo (s.givenUp i) := by
    cases h : (s.stream i).cls <;> simp only [State.givenUp, h] <;> rfl
  have both := congrArg (State.givenTo · (s.givenUp i)) (State.marked_rest (s := s) (s.stream i).chain)
  exact own.trans both

/-- R121: apart from the streams, records, functions, the budget and the counts in use, nothing is left changed. -/
theorem State.discarded_rest {t : State} (h : ((s.setLink p l).givenUp i).retired y i (s.stream i).cls (s.stream i).owner
    (s.stream i).chain []) (ht : t = (y.setStream i (s.stream i).discarded).withPorts t.ports) : t = { s with
      streams := t.streams, records := t.records, functions := t.functions, budget := t.budget
      tenantInUse := if (s.stream i).cls = .tenant then s.tenantInUse - (s.stream i).chain.length else s.tenantInUse
      reclaimInUse := if (s.stream i).cls = .tenant then s.reclaimInUse else s.reclaimInUse - (s.stream i).chain.length
      ports := t.ports } := by
  have rest := h.rest
  rw [State.givenUp_rest] at rest
  have streams : t.streams = (y.setStream i (s.stream i).discarded).streams := by rw [ht]; rfl
  have records : t.records = y.records := by rw [ht]; rfl
  have functions : t.functions = y.functions := by rw [ht]; rfl
  have budget : t.budget = ((s.setLink p l).givenUp i).budget := by rw [ht]; rw [rest]; rfl
  rw [streams, records, functions, budget]
  have both := congrArg (fun x : State => (x.setStream i (s.stream i).discarded).withPorts t.ports) rest
  exact ht.trans both

theorem State.givenUp_budget_reclaim (h : (s.stream i).cls = .reclaim) : (s.givenUp i).budget =
    { s.budget with reclaimHeld := s.budget.reclaimHeld - s.uncut i } := by
  have budget : (s.marked (s.stream i).chain).budget = s.budget := by rw [State.marked_rest]
  simp only [State.givenUp, h, State.released, ← budget]
  rfl

theorem State.givenUp_functions_reclaim (h : (s.stream i).cls = .reclaim) : (s.givenUp i).functions = s.functions := by
  have functions : (s.marked (s.stream i).chain).functions = s.functions := by rw [State.marked_rest]
  simp only [State.givenUp, h, State.released, ← functions]
  rfl

theorem State.givenUp_budget_tenant (h : (s.stream i).cls = .tenant)
    (enabled : (s.function (s.stream i).owner).state ≠ .disabled) : (s.givenUp i).budget = { s.budget with
      total := s.budget.total - s.uncut i
      unused := s.budget.unused + (((s.function (s.stream i).owner).reserve -
        ((s.function (s.stream i).owner).held - s.uncut i)) -
        ((s.function (s.stream i).owner).reserve - (s.function (s.stream i).owner).held)) } := by
  have budget : (s.marked (s.stream i).chain).budget = s.budget := by rw [State.marked_rest]
  have function : (s.marked (s.stream i).chain).function (s.stream i).owner = s.function (s.stream i).owner := by
    rw [State.marked_rest]; rfl
  have lowered := State.lowerHeld_budget (s := s.marked (s.stream i).chain) (s.uncut i) (by rw [function]; exact enabled)
  rw [function, budget] at lowered
  simp only [State.givenUp, h]
  exact lowered

theorem State.givenUp_function_tenant (h : (s.stream i).cls = .tenant) (g : Nat) : (s.givenUp i).function g =
    if g = (s.stream i).owner then { s.function g with held := (s.function g).held - s.uncut i } else s.function g := by
  have function (x : Nat) : (s.marked (s.stream i).chain).function x = s.function x := by
    rw [State.marked_rest]; rfl
  have lowered : (s.givenUp i).function g = _ :=
    State.released_function (s := s.marked (s.stream i).chain) (s.uncut i) g
  rw [lowered, function, function]
  by_cases hg : g = (s.stream i).owner
  · rw [if_pos ⟨h, hg⟩, if_pos hg, hg]
  · rw [if_neg fun both => hg both.2, if_neg hg]

end

/-- Settles O27: the chain of a HALTED stream is given up by its class. -/
theorem discardStreamGivesUpTheChain : Obligations.DiscardStreamGivesUpTheChain := by
  unfold Obligations.DiscardStreamGivesUpTheChain
  intro v stream s hr hw i st fr refused
  have act := discardStreamAct_eq (s := s.setLink v.port .taken) (stream := stream) hw
  refine ⟨fun h => exec_refused hr (act.trans (if_pos h)),
    fun hi hh => exec_refused hr (act.trans ((if_neg hi.not_gt).trans (if_pos hh))), ?_, ?_⟩
  · intro hd hi halted reclaim distinct all calm none_waits room
    have gives : s.givesUp i := by
      refine ⟨halted, distinct, ?_, ?_, ?_, none_waits, ?_⟩
      · rw [reclaim]; exact all
      · rw [reclaim]; exact calm
      · rw [reclaim]; exact fun h => by cases h
      · rw [reclaim]; exact room
    obtain ⟨t, y, executed, answer, run, eq, told⟩ := exec_discardStream hr hd hi gives
    have record := State.discarded_record run
    have streams := State.discarded_stream run
    have rest := State.discarded_rest run eq
    have functions : t.functions = s.functions := by
      rw [eq]
      exact (run.kept reclaim).trans (State.givenUp_functions_reclaim reclaim)
    have budget : t.budget = ((s.setLink v.port .taken).givenUp i).budget := by
      rw [eq]
      rw [run.rest]
      rfl
    have class_eq : (s.stream stream.toNat).cls = .reclaim := reclaim
    simp only [class_eq, reduceCtorEq, if_false] at rest told
    rw [functions] at rest
    have count : t.reclaimInUse = s.reclaimInUse - st.chain.length := by rw [rest]
    refine ⟨t, executed, answer, ?_, ?_, fun n hn => ?_, fun r => ?_, ?_, count, told⟩
    · rw [count]
      exact rest
    · rw [eq]
      exact (streams i).trans (if_pos rfl)
    · rw [eq]
      exact (streams n).trans (if_neg hn)
    · rw [eq]
      exact record r
    · exact budget.trans (State.givenUp_budget_reclaim reclaim)
  · intro hd hi halted tenant distinct all enabled flush fence calm none_waits room
    have gives : s.givesUp i := by
      refine ⟨halted, distinct, ?_, ?_, fun _ => ⟨fence, flush⟩, none_waits, ?_⟩
      · rw [tenant]; exact all
      · rw [tenant]; exact calm
      · rw [tenant]; exact room
    obtain ⟨t, y, executed, answer, run, eq, told⟩ := exec_discardStream hr hd hi gives
    have record := State.discarded_record run
    have streams := State.discarded_stream run
    have rest := State.discarded_rest run eq
    have budget : t.budget = ((s.setLink v.port .taken).givenUp i).budget := by
      rw [eq]
      rw [run.rest]
      rfl
    have class_eq : (s.stream stream.toNat).cls = .tenant := tenant
    simp only [class_eq, if_true] at rest told
    refine ⟨t, executed, answer, rest, fun n => ?_, fun r => ?_, fun f => ?_, ?_, told⟩
    · rw [eq]
      exact streams n
    · rw [eq]
      exact record r
    · have function : t.function f = y.function f := by rw [eq]; rfl
      have given (g : Nat) : ((s.setLink v.port .taken).givenUp stream.toNat).function g =
          if g = (s.stream stream.toNat).owner then
            { s.function g with held := (s.function g).held - s.uncut stream.toNat } else s.function g :=
        State.givenUp_function_tenant (s := s.setLink v.port .taken) (i := stream.toNat) tenant g
      rw [function, run.function, given, given, if_pos rfl]
      by_cases hf : f = st.owner
      · rw [if_pos ⟨tenant, hf⟩, if_pos hf]
      · rw [if_neg fun both => hf both.2, if_neg hf]
        exact (if_neg hf).symm
    · exact budget.trans (State.givenUp_budget_tenant tenant enabled)

end Sys2Proof.Machine
end

section
/-! FENCE FUNCTION in DISCARD mode (R153, R156): the settlement of O31. -/

namespace Sys2Proof.Machine

/-! ### A record whose release completes a fence (R55, R156) -/

section
variable {s : State} {i r f : Nat} {p : Port}

/-- Function f with nothing outstanding and its fence complete. -/
def Function.fenceEnded (fr : Function) : Function :=
  { fr with outstanding := fr.outstanding - 1, violations := 0, fence := none }

/-- The last outstanding record of a fenced function is FREE again. -/
def State.freedLast (s : State) (r f : Nat) : State :=
  { (s.setRecord r .powerOn).setFunction f (s.function f).fenceEnded with tenantInUse := s.tenantInUse - 1 }

theorem State.freeRecord_fenced {m : FenceMode} {serial : Word} (ho : (s.record r).origin = .tenant f serial)
    (last : (s.function f).outstanding = 1) (fenced : (s.function f).fence = some (m, p))
    (hw : ∀ g n, (s.function g).wait ≠ .records n)
    (hs : (s.stream (s.record r).stream).state ≠ .draining) :
    s.Does (s.freeRecord r) (s.freedLast r f)
      (fun q => if q = p then [.fenceComplete f (s.function f).violations] else []) := by
  have own : (s.freedTenant r f).function f = { s.function f with outstanding := (s.function f).outstanding - 1 } :=
    State.setFunction_function_same ..
  have completes := State.fenceTest_completes (s := s.freedTenant r f) (f := f) (m := m) (p := p)
    (by rw [own]; exact (show (s.function f).outstanding - 1 = 0 by omega)) (by rw [own]; exact fenced)
  have ended : (s.freedTenant r f).setFunction f { (s.freedTenant r f).function f with violations := 0, fence := none } =
      s.freedLast r f := by
    have still_fenced : ({ s.function f with outstanding := (s.function f).outstanding - 1 } : Function) ≠ .powerOn :=
      fun same => by
        have none_ : (s.function f).fence = none := congrArg Function.fence same
        rw [none_] at fenced; cases fenced
    have twice := State.setFunction_setFunction (s.setRecord r .powerOn) f (s.function f).fenceEnded still_fenced
    have counted := congrArg (fun x : State => { x with tenantInUse := s.tenantInUse - 1 }) twice
    rw [own]
    exact counted
  have freed : s.freeRecord r =
      ((s.freedTenant r f).fenceTest f).openTenantRecordsWaits.closeTest (s.record r).stream := by
    simp only [State.freeRecord, ho]
    rfl
  rw [ended, own] at completes
  rw [freed]
  generalize (s.freedTenant r f).fenceTest f = x at completes
  have waits : x.openTenantRecordsWaits = x := by
    refine State.openTenantRecordsWaits_none fun g n => ?_
    have function : x.function g = if g = f then (s.function f).fenceEnded else s.function g := by
      rw [completes.rest]
      exact State.setFunction_function ..
    rw [function]
    split
    · exact hw f n
    · exact hw g n
  have stream : x.stream (s.record r).stream = s.stream (s.record r).stream := by rw [completes.rest]; rfl
  rw [waits, State.closeTest_open (by rw [stream]; exact hs)]
  exact completes.after rfl

/-- R54 to R156: the head record retires, is reported at once and is FREE, and with it the fence completes. -/
theorem State.retireHead_fenced {m : FenceMode} {serial : Word} (ho : (s.record r).origin = .tenant f serial)
    (last : (s.function f).outstanding = 1) (fenced : (s.function f).fence = some (m, p))
    (hw : ∀ g n, (s.function g).wait ≠ .records n) (hs : (s.stream (s.record r).stream).state ≠ .draining)
    (none_waits : s.reports = []) (room : s.hasRoom .fp = true) :
    s.Does (s.retireHead i r) ((s.unchained i).freedLast r f) (fun q =>
      (if q = .fp then [.fragmentDone (s.record r).tag (s.record r).stream (s.record r).retireStatus] else []) ++
      (if q = p then [.fenceComplete f (s.function f).violations] else [])) := by
  have is_tenant : (s.record r).origin.isOf .tenant f := ⟨serial, ho⟩
  let y := (s.unchained i).setRecord r (s.record r).pending
  have record : y.record r = (s.record r).pending := State.setRecord_record_same ..
  have reported : s.retireHead i r =
      (y.emit .fp (.fragmentDone (s.record r).tag (s.record r).stream (s.record r).retireStatus)).freeRecord r := by
    have eq := State.report_eq (s := s.retiring i r) (r := r) (status := (s.record r).retireStatus) (p := .fp)
      (by rw [State.retiring_record]; rfl) (State.reportPort_of (State.retiring_origin is_tenant)) room
    rw [State.retireHead_only is_tenant none_waits room, eq, State.retiring_unlisted none_waits, State.retiring_record]
    rfl
  have emitted := (State.Does.refl y).emit .fp
    (.fragmentDone (s.record r).tag (s.record r).stream (s.record r).retireStatus)
  rw [reported]
  generalize y.emit .fp (.fragmentDone (s.record r).tag (s.record r).stream (s.record r).retireStatus) = x at emitted
  have same := emitted.rest
  have freed := State.freeRecord_fenced (s := x) (r := r) (f := f) (p := p) (m := m) (serial := serial)
    (by rw [same]; exact (congrArg Fragment.origin record).trans ho) (by rw [same]; exact last)
    (by rw [same]; exact fenced) (by rw [same]; exact hw) (by
      have stream : (x.record r).stream = (s.record r).stream := by
        rw [same]; exact (congrArg Fragment.stream record).trans rfl
      rw [stream, same]
      exact (State.unchained_state _).trans_ne hs)
  have violations : (x.function f).violations = (s.function f).violations := by rw [same]; rfl
  rw [violations] at freed
  have both := emitted.bind (fun z => z.freedLast r f) (fun _ _ => rfl) freed
  have left : y.freedLast r f = (s.unchained i).freedLast r f := by
    have merged := State.setRecord_setRecord (s.unchained i) r .powerOn (Fragment.pending_ne (s.record r))
    have counted := congrArg (fun z : State =>
      { z.setFunction f (s.function f).fenceEnded with tenantInUse := s.tenantInUse - 1 }) merged
    exact counted
  exact (left ▸ both).after rfl

/-- R54, R156: the chain of one record retires, and with it the fence completes. -/
theorem State.retire_fenced {m : FenceMode} {serial : Word} (chain : (s.stream i).chain = [r])
    (owner : (s.stream i).owner = f) (durable : (s.record r).durable = (s.record r).stop)
    (ho : (s.record r).origin = .tenant f serial) (last : (s.function f).outstanding = 1)
    (fenced : (s.function f).fence = some (m, p)) (flush : (s.function f).flush = .none)
    (hw : ∀ g n, (s.function g).wait ≠ .records n) (hs : (s.stream (s.record r).stream).state ≠ .draining)
    (none_waits : s.reports = []) (room : s.hasRoom .fp = true) :
    s.Does (s.retire i).1 ((s.unchained i).freedLast r f) (fun q =>
      (if q = .fp then [.fragmentDone (s.record r).tag (s.record r).stream (s.record r).retireStatus] else []) ++
      (if q = p then [.fenceComplete f (s.function f).violations] else [])) := by
  have head := State.retireHead_fenced (i := i) ho last fenced hw hs none_waits room
  have run : State.retireFor 1 s i = (s.retireHead i r, 1) := by
    simp only [State.retireFor, chain, durable, if_true]
  have eq : (s.retire i).1 = (s.retireHead i r).afterRun (s.stream i).cls f 1 := by
    simp only [State.retire, chain, List.length_singleton, run, owner]
  rw [eq]
  generalize s.retireHead i r = x at head
  have quiet : x.flushesQuietly (s.stream i).cls f := fun _ => by
    have ended : x.function f = (s.function f).fenceEnded := by
      rw [head.rest]; exact State.setFunction_function_same ..
    rw [ended]
    exact flush
  rw [State.afterRun_quiet quiet]
  exact head

/-! ### One stream with one uncut record is given up (R153) -/

theorem State.givenUp_stream (n : Nat) : (s.givenUp i).stream n =
    if n = i then { s.stream i with sealing := .disarmed } else s.stream n := by
  rw [State.givenUp, State.setStream_stream, State.released_stream, State.marked_rest]
  rfl

theorem State.givenUp_stream_same : (s.givenUp i).stream i = { s.stream i with sealing := .disarmed } :=
  State.givenUp_stream i |>.trans (if_pos rfl)

theorem State.givenUp_records : (s.givenUp i).records = (s.marked (s.stream i).chain).records := by
  cases h : (s.stream i).cls <;> simp only [State.givenUp, h] <;> rfl

theorem State.givenUp_uncut : (s.givenUp i).uncut i = 0 := by
  have chain : ((s.givenUp i).stream i).chain = (s.stream i).chain :=
    (congrArg Stream.chain State.givenUp_stream_same).trans rfl
  rw [State.uncut, chain]
  refine List.sum_eq_zero fun n hn => ?_
  obtain ⟨r, hr, rfl⟩ := List.mem_map.mp hn
  rw [State.givenUp_record, State.marked_record, if_pos hr]
  exact Nat.sub_self _

theorem State.fromCut_fresh (chain : (s.stream i).chain = [r]) (fresh : (s.record r).placed < (s.record r).stop) :
    s.fromCut i = (s.stream i).chain := by
  simp [State.fromCut, chain, fresh]

/-- A stream that is not in WAIT-SUPPLY and waits for no supply stays as it is (R86). -/
theorem State.leaveSupplyIdle_same (wait : s.supplyWait i = false) (hs : (s.stream i).state ≠ .free)
    (hw : (s.stream i).state ≠ .waitSupply) : s.leaveSupplyIdle i = s := by
  have absent : i ∉ s.waitSupply := fun h => by
    rw [State.supplyWait, List.contains_eq_mem, decide_eq_false_iff_not] at wait
    exact wait h
  have left : s.leaveSupply i = s := by
    have kept : s.waitSupply.filter (· ≠ i) = s.waitSupply :=
      List.filter_eq_self.mpr fun n hn => decide_eq_true fun h => absent (h ▸ hn)
    rw [State.leaveSupply, kept]
  have same : s.setStream i (s.stream i) = s := by
    have table := Table.write_read_of_ne Stream.powerOn s.streams i (Stream.ne_powerOn hs)
    have put := congrArg s.withStreams table
    exact put
  simp only [State.leaveSupplyIdle, left, hw, if_false, same, ite_self]

theorem State.streamsOf_only {k : Nat} (canonical : Table.canonical .powerOn s.streams = true)
    (only : ∀ j, (s.stream j).state ≠ .free ∧ (s.stream j).cls = .tenant ∧ (s.stream j).owner = f ↔ j = k) :
    s.streamsOf f = [k] := by
  have ascending := (Table.indices_pairwise Stream.powerOn s.streams 0 canonical).2
  have distinct : (s.streamsOf f).Nodup := (ascending.imp fun h => Nat.ne_of_lt h).filter _
  have members (j : Nat) : j ∈ s.streamsOf f ↔ j ∈ [k] := by
    rw [State.mem_streamsOf, State.ofFunction_iff, List.mem_singleton]
    exact only j
  exact List.perm_singleton.mp ((List.perm_ext_iff_of_nodup distinct (List.nodup_singleton k)).mpr members)

/-- Stream i, of a function f being fenced in DISCARD mode, holds the function's one record r, of which nothing was cut. -/
structure State.holdsLast (s : State) (i r f : Nat) (p : Port) : Prop where
  state : (s.stream i).state = .active ∨ (s.stream i).state = .halted
  tenant : (s.stream i).cls = .tenant
  owner : (s.stream i).owner = f
  chain : (s.stream i).chain = [r]
  wait : s.supplyWait i = false
  origin : ∃ serial, (s.record r).origin = .tenant f serial
  stream : (s.record r).stream = i
  mark : (s.record r).mark = none
  placed : (s.record r).placed = 0
  durable : (s.record r).durable = 0
  positive : 1 ≤ (s.record r).sectors
  fence : (s.function f).fence = some (.discard, p)
  last : (s.function f).outstanding = 1
  flush : (s.function f).flush = .none
  calm : ∀ g, (s.function g).wait = .none
  reports : s.reports = []
  room : s.hasRoom .fp = true

namespace State.holdsLast

theorem uncut (h : s.holdsLast i r f p) : s.uncut i = (s.record r).sectors := by
  simp [State.uncut, h.chain, Fragment.uncut, Fragment.stop, h.mark, h.placed]

theorem given_function (h : s.holdsLast i r f p) (g : Nat) : (s.givenUp i).function g =
    if g = f then { s.function f with held := (s.function f).held - (s.record r).sectors } else s.function g := by
  refine (State.givenUp_function_tenant h.tenant g).trans ?_
  rw [h.owner, h.uncut]
  by_cases hg : g = f
  · rw [if_pos hg, if_pos hg, hg]
  · rw [if_neg hg, if_neg hg]

theorem given_record (h : s.holdsLast i r f p) : (s.givenUp i).record r = { s.record r with mark := some 0 } := by
  refine (State.givenUp_record r).trans ((State.marked_record _ r).trans ?_)
  rw [if_pos (by rw [h.chain]; exact List.mem_singleton_self r), h.placed]

theorem given_stream (h : s.holdsLast i r f p) (n : Nat) : ((s.givenUp i).stream n).state ≠ .draining ∨ n ≠ i := by
  by_cases hn : n = i
  · refine .inl ?_
    rw [hn, State.givenUp_stream_same]
    rcases h.state with state | state <;> simp [state]
  · exact .inr hn

theorem fenceDiscard_eq (h : s.holdsLast i r f p) : s.fenceDiscard i = ((s.givenUp i).retire i).1 := by
  have marks := State.discardMarks_chain (s := s) (i := i) (by rw [h.tenant]; exact h.calm)
  have cut : s.fromCut i = (s.stream i).chain := State.fromCut_fresh h.chain (by
    rw [Fragment.stop, h.mark, h.placed]
    exact h.positive)
  have supply : (s.givenUp i).supplyWait i = false := by
    have list : (s.givenUp i).waitSupply = s.waitSupply := by rw [State.givenUp_rest]; rfl
    rw [State.supplyWait, list]
    exact h.wait
  have idle : (s.givenUp i).leaveSupplyIdle i = s.givenUp i := State.leaveSupplyIdle_same supply
    (by rw [State.givenUp_stream_same]; rcases h.state with state | state <;> simp [state])
    (by rw [State.givenUp_stream_same]; rcases h.state with state | state <;> simp [state])
  rw [State.fenceDiscard, cut, marks, idle]

/-- R153, R156: the record is given up and reported, and the fence completes. -/
theorem fenceDiscard_does (h : s.holdsLast i r f p) : s.Does (s.fenceDiscard i) (((s.givenUp i).unchained i).freedLast r f)
    (fun q => (if q = .fp then [.fragmentDone (s.record r).tag i .discarded] else []) ++
      (if q = p then [.fenceComplete f (s.function f).violations] else [])) := by
  obtain ⟨serial, origin⟩ := h.origin
  have fence : (s.givenUp i).function f = { s.function f with held := (s.function f).held - (s.record r).sectors } :=
    (h.given_function f).trans (if_pos rfl)
  have reports : (s.givenUp i).reports = s.reports := by rw [State.givenUp_rest]; rfl
  have gone := State.retire_fenced (s := s.givenUp i) (i := i) (r := r) (f := f) (p := p) (m := .discard) (serial := serial)
    (by rw [State.givenUp_stream_same]; exact h.chain) (by rw [State.givenUp_stream_same]; exact h.owner)
    (by rw [h.given_record]; exact h.durable) (by rw [h.given_record]; exact origin) (by rw [fence]; exact h.last)
    (by rw [fence]; exact h.fence) (by rw [fence]; exact h.flush)
    (fun g n => by rw [h.given_function]; split <;> simp [h.calm])
    (by
      rw [h.given_record]
      exact (h.given_stream _).resolve_right (not_not.mpr h.stream))
    (by rw [reports]; exact h.reports) (by rw [State.hasRoom, State.port, State.givenUp_ports]; exact h.room)
  rw [h.fenceDiscard_eq]
  rw [h.given_record, fence] at gone
  refine (gone.after State.givenUp_ports).told_eq fun q => ?_
  rw [h.stream]
  rfl

/-- The records that R153 leaves: the record given up is FREE. -/
theorem records_after (h : s.holdsLast i r f p) :
    (((s.givenUp i).unchained i).freedLast r f).records = (s.setRecord r .powerOn).records := by
  have marked : (s.givenUp i).records = (s.setRecord r { s.record r with mark := some (s.record r).placed }).records := by
    rw [State.givenUp_records, h.chain]
    rfl
  have merged := congrArg State.records (State.setRecord_setRecord s r
    (v := { s.record r with mark := some (s.record r).placed }) .powerOn fun same => by
      have mark := congrArg Fragment.mark same
      cases mark)
  have written : (((s.givenUp i).unchained i).freedLast r f).records =
      Table.write Fragment.powerOn (s.givenUp i).records r .powerOn := rfl
  rw [written, marked]
  exact merged

end State.holdsLast

/-- A state with the tables, the budget, the ports and the count that R153 changes. -/
def State.fencedTo (s t : State) : State :=
  { s with records := t.records, functions := t.functions, streams := t.streams, budget := t.budget
           tenantInUse := s.tenantInUse - 1, ports := t.ports }

theorem State.holdsLast.rest {t : State} (ht : t = (((s.givenUp i).unchained i).freedLast r f).withPorts t.ports) :
    t = s.fencedTo t := by
  have over_given : t = (s.givenUp i).fencedTo t := by rw [ht]; rfl
  have both := congrArg (State.fencedTo · t) (State.givenUp_rest s i)
  exact over_given.trans both

theorem State.startFence_discard_one {k : Nat} (one : s.streamsOf f = [k]) : s.startFence f .discard p =
    ((s.fence f .discard p).fenceDiscard k).fenceTest f := by
  simp only [State.startFence, one]
  rfl

end

/-- Settles O31: the release of the one record completes the fence, whose last test then finds nothing. -/
theorem fenceFunctionInDiscardMode : Obligations.FenceFunctionInDiscardMode := by
  unfold Obligations.FenceFunctionInDiscardMode
  intro v fn s k r serial hr hd canonical i f fr st n hf enabled last flush only state chain positive ho hk mark placed
    durable wait none_waits room calm
  let x := s.setLink v.port .taken
  let b := x.fence f .discard v.port
  have own : b.function f = { fr with state := .fenced, fence := some (.discard, v.port) } :=
    State.setFunction_function_same ..
  have function (g : Nat) : b.function g = if g = f then { fr with state := .fenced, fence := some (.discard, v.port) }
      else s.function g := State.setFunction_function ..
  have has_room : b.hasRoom .fp = true :=
    (State.setLink_hasRoom s v.port .taken .fp).trans (decide_eq_true (by have fits := room .fp; omega))
  have holds : b.holdsLast k r f v.port := {
    state := state, tenant := ((only k).mpr rfl).2.1, owner := ((only k).mpr rfl).2.2, chain := chain, wait := wait
    origin := ⟨serial, ho⟩, stream := hk, mark := mark, placed := placed, durable := durable, positive := positive
    fence := by rw [own], last := by rw [own]; exact last, flush := by rw [own]; exact flush
    calm := fun g => by
      rw [function]
      split
      · exact calm f
      · exact calm g
    reports := none_waits, room := has_room }
  have does := holds.fenceDiscard_does
  have start : x.startFence f .discard v.port = b.fenceDiscard k := by
    rw [State.startFence_discard_one (State.streamsOf_only (s := x) canonical only)]
    refine State.fenceTest_none ?_
    rw [does.rest]
    exact congrArg Function.fence (State.setFunction_function_same ..)
  have act : requestAct i x = ⟨.accepted, [], b.fenceDiscard k⟩ := by
    have eq := fenceFunctionAct_eq (s := x) (p := v.port) (fn := fn) (mode := 0) hd hf (by decide)
    exact eq.trans ((if_neg (not_not.mpr enabled)).trans (congrArg (Reply.mk .accepted []) start))
  obtain ⟨t, executed, answer, delivers, rest⟩ := exec_answers hr act (does.after rfl)
  have not_fp : v.port ≠ .fp := by
    have allowed := State.reaches_permitted hr
    intro h
    rw [show i.via.port = v.port from rfl, h] at allowed
    cases allowed
  refine ⟨t, executed, answer, ?_, fun g => ?_, fun j => ?_, ?_, ?_⟩
  · have records : t.records = (s.setRecord r .powerOn).records := by
      rw [rest]
      exact holds.records_after
    have fenced := State.holdsLast.rest rest
    rw [State.fencedTo, records] at fenced
    exact fenced
  · have left : t.function g = (((b.givenUp k).unchained k).freedLast r f).function g := by rw [rest]; rfl
    have ended : (((b.givenUp k).unchained k).freedLast r f).function g = if g = f then
        ((b.givenUp k).function f).fenceEnded else (b.givenUp k).function g := State.setFunction_function ..
    rw [left, ended, holds.given_function, holds.given_function, if_pos rfl, own]
    by_cases hg : g = f
    · rw [if_pos hg, if_pos hg]
      have none_left : fr.outstanding - 1 = 0 := by rw [last]
      exact congrArg (fun z => ({ fr with
        state := .fenced, held := fr.held - n, outstanding := z, fence := none, violations := 0 } : Function)) none_left
    · rw [if_neg hg, if_neg hg, if_neg hg, function, if_neg hg]
  · have left : t.stream j = ((b.givenUp k).unchained k).stream j := by rw [rest]; rfl
    rw [left, State.unchained, State.setStream_stream, State.givenUp_stream, State.givenUp_stream, if_pos rfl]
    by_cases hj : j = k
    · rw [if_pos hj, if_pos hj]
      exact congrArg (fun z => ({ st with chain := List.tail z, sealing := .disarmed } : Stream)) chain
    · rw [if_neg hj, if_neg hj, if_neg hj]
      rfl
  · have left : t.budget = (b.givenUp k).budget := by rw [rest]; rfl
    rw [left, State.givenUp_budget_tenant holds.tenant]
    · rw [holds.uncut, holds.owner, own]
      rfl
    · rw [holds.owner, own]
      simp
  · refine (delivers.congr fun q => ?_).tells_of_roomFor room fun q => ?_
    · rw [own]
      by_cases hq : q = .fp
      · rw [if_pos hq, if_pos hq, if_neg (by rw [hq]; exact not_fp.symm)]
        rfl
      · rw [if_neg hq, if_neg hq]
        rfl
    · split
      · simp
      · split <;> simp

end Sys2Proof.Machine
end

section
/-! An accepted DONE (R106 to R110): the settlement of O43 and O44. -/

namespace Sys2Proof.Machine

/-! ### The parts of an accepted DONE -/

section
variable {s : State} {b : Batch} {e : Extent} {i k : Nat} {p : Port}

/-- R106, R51: the segment and the record of a batch of one extent have the batch's sectors. -/
def State.carried (s : State) (b : Batch) (e : Extent) : State := (s.advance b).makeDurable e

/-- R108 and after: what an accepted DONE tests once the batch is out of flight. -/
def State.afterFlight (s : State) (b : Batch) : State :=
  ((((s.slotArbiter b.seg.die).closeIfDone b.seg).test b.stream).closeTest b.stream).drainTest

theorem State.done_eq {r : State} {n : Nat} (he : b.extents = [e]) (hr : (s.carried b e).retire b.stream = (r, n)) :
    s.done b k = (((r.releaseStream b.stream b.real).endFlight b k).afterFlight b, n) := by
  have carried : b.extents.foldl State.makeDurable (s.advance b) = s.carried b e := by rw [he]; rfl
  simp only [State.done, carried, hr]
  rfl

theorem batchResultDoneAct_eq {slot : Half} {gen : Byte} {deadline : Word} (hw : s.working = true)
    (hn : slot.toNat ≤ 511) (hb : s.heldBatch p slot.toNat gen = some (b, deadline))
    (hu : b.unit = (s.segment b.seg).doneUnits) : batchResultDoneAct p slot gen s =
      ⟨.ok, donePayload b (s.done b slot.toNat).1 (s.done b slot.toNat).2, (s.done b slot.toNat).1⟩ := by
  rw [batchResultDoneAct, State.onResult_held hw hn (by decide) hb, if_pos hu]

theorem State.cutDue_of_few (h : s.uncut i = 0 ∨ (s.uncut i < s.geo.sectors ∧ (s.stream i).sealing ≠ .pending)) :
    s.cutDue i = false := by
  rcases h with none_uncut | ⟨few, sealing⟩
  · exact State.cutDue_none none_uncut
  · simp [State.cutDue, not_le.mpr few, sealing]

theorem State.closeIfDone_open (g : Seg) (h : (s.segment g).state ≠ .filled) : s.closeIfDone g = s := by
  rw [State.closeIfDone, if_neg (by simp [h])]

/-- A DONE after which no arbiter, close, cut or test has anything to do. -/
theorem State.afterFlight_idle (slots : (s.die b.seg.die).slotWait = []) (opened : (s.segment b.seg).state ≠ .filled)
    (due : s.cutDue b.stream = false) (draining : (s.stream b.stream).state ≠ .draining) (device : s.device ≠ .drain) :
    s.afterFlight b = s := by
  rw [State.afterFlight, State.slotArbiter_stops (.inl slots), State.closeIfDone_open _ opened, State.test_idle due,
    State.closeTest_open draining, State.drainTest_off device]

/-- The DONE of a FILLED segment's last unit closes it, and nothing else is left to do. -/
theorem State.afterFlight_closes (slots : (s.die b.seg.die).slotWait = []) (filled : (s.segment b.seg).state = .filled)
    (full : s.geo.units ≤ (s.segment b.seg).doneUnits) (due : (s.closeSegment b.seg false).cutDue b.stream = false)
    (draining : ((s.closeSegment b.seg false).stream b.stream).state ≠ .draining)
    (device : (s.closeSegment b.seg false).device ≠ .drain) : s.afterFlight b = s.closeSegment b.seg false := by
  have closes : s.closeIfDone b.seg = s.closeSegment b.seg false := by
    rw [State.closeIfDone, if_pos (by simp [filled, full])]
  rw [State.afterFlight, State.slotArbiter_stops (.inl slots), closes, State.test_idle due, State.closeTest_open draining,
    State.drainTest_off device]

/-- R54: a chain whose head is not yet durable retires nothing. -/
theorem State.retire_waits {r : Nat} {behind : List Nat} (chain : (s.stream i).chain = r :: behind)
    (durable : (s.record r).durable ≠ (s.record r).stop) : s.retire i = (s, 0) := by
  simp only [State.retire, chain, List.length_cons, State.retireFor, durable, if_false, State.afterRun, if_true]

/-! ### What the parts leave -/

theorem State.carried_segment : (s.carried b e).segment b.seg = { s.segment b.seg with
    doneUnits := (s.segment b.seg).doneUnits + 1, written := (s.segment b.seg).written + b.real
    valid := (s.segment b.seg).valid + b.real } := State.setSegment_segment_same ..

theorem State.carried_record (r : Nat) : (s.carried b e).record r = if r = e.record then
    { s.record e.record with durable := (s.record e.record).durable + e.sectors } else s.record r :=
  State.setRecord_record ..

/-- What a DONE adds to a record does not change what is uncut of a stream. -/
theorem State.carried_uncut (n : Nat) : (s.carried b e).uncut n = s.uncut n := by
  refine congrArg List.sum (List.map_congr_left fun r _ => ?_)
  rw [State.carried_record]
  split
  · rename_i h; rw [h]; rfl
  · rfl

theorem State.uncut_congr {t : State} (chain : (t.stream i).chain = (s.stream i).chain) (records : t.records = s.records) :
    t.uncut i = s.uncut i := by
  have record (r : Nat) : t.record r = s.record r := congrArg (Table.read Fragment.powerOn · r) records
  simp only [State.uncut, chain, record]

theorem State.endFlight_eq : s.endFlight b k = ((s.setStream b.stream { s.stream b.stream with
    inFlight := (s.stream b.stream).inFlight - 1, failures := 0
    batchesDone := (s.stream b.stream).batchesDone + 1 }).setDie b.seg.die
      { s.die b.seg.die with inFlight := (s.die b.seg.die).inFlight - 1 }).freeSlot k := rfl

theorem State.endFlight_stream : (s.endFlight b k).stream b.stream = { s.stream b.stream with
    inFlight := (s.stream b.stream).inFlight - 1, failures := 0, batchesDone := (s.stream b.stream).batchesDone + 1 } :=
  State.setStream_stream_same ..

theorem State.endFlight_die : (s.endFlight b k).die b.seg.die =
    { s.die b.seg.die with inFlight := (s.die b.seg.die).inFlight - 1 } := State.setDie_die_same ..

theorem State.endFlight_uncut (n : Nat) : (s.endFlight b k).uncut n = s.uncut n := by
  have chain : ((s.endFlight b k).stream n).chain = (s.stream n).chain := by
    have stream : (s.endFlight b k).stream n = _ := State.setStream_stream ..
    rw [stream]
    split
    · rename_i h; rw [h]
    · rfl
  rw [State.uncut, chain]
  rfl

/-- A slot that is freed makes no notice condition true. -/
theorem State.freeSlot_notice (q : Port) (h : (s.freeSlot k).notice q = true) : s.notice q = true := by
  cases hc : portCore q with
  | none =>
    simp only [State.notice, hc] at h ⊢
    exact h
  | some c =>
    simp only [State.notice, hc, Bool.or_eq_true, Bool.not_eq_true', List.isEmpty_eq_false_iff] at h ⊢
    refine h.imp id fun some_left => ?_
    cases c <;> exact fun none_left => some_left (by simp [State.freeSlot, Queues.at] at none_left ⊢; simp [none_left])

/-- r is a DONE's state after its release: the state carried, apart from the functions, the budget and the ports. -/
def State.releasedTo (s r : State) : State := { s with functions := r.functions, budget := r.budget, ports := r.ports }

section
variable {r : State}

theorem State.flown_stream (kept : r = (s.carried b e).releasedTo r) : (r.endFlight b k).stream b.stream =
    { s.stream b.stream with inFlight := (s.stream b.stream).inFlight - 1, failures := 0
                             batchesDone := (s.stream b.stream).batchesDone + 1 } := by
  have same : r.stream b.stream = s.stream b.stream := (congrArg (State.stream · b.stream) kept).trans rfl
  rw [State.endFlight_stream, same]

theorem State.flown_die (kept : r = (s.carried b e).releasedTo r) : (r.endFlight b k).die b.seg.die =
    { s.die b.seg.die with inFlight := (s.die b.seg.die).inFlight - 1 } := by
  have same : r.die b.seg.die = s.die b.seg.die := (congrArg (State.die · b.seg.die) kept).trans rfl
  rw [State.endFlight_die, same]

theorem State.flown_segment (kept : r = (s.carried b e).releasedTo r) : (r.endFlight b k).segment b.seg =
    { s.segment b.seg with
      doneUnits := (s.segment b.seg).doneUnits + 1, written := (s.segment b.seg).written + b.real
      valid := (s.segment b.seg).valid + b.real } := by
  have same : r.segment b.seg = (s.carried b e).segment b.seg := (congrArg (State.segment · b.seg) kept).trans rfl
  exact same.trans State.carried_segment

theorem State.flown_uncut (kept : r = (s.carried b e).releasedTo r) (n : Nat) :
    (r.endFlight b k).uncut n = s.uncut n := by
  have same : r.uncut n = (s.carried b e).uncut n := (congrArg (State.uncut · n) kept).trans rfl
  rw [State.endFlight_uncut, same, State.carried_uncut]

theorem State.flown_control (kept : r = (s.carried b e).releasedTo r) : (r.endFlight b k).control = s.control :=
  (congrArg State.control kept).trans rfl

/-- A DONE that neither closes its segment nor leaves a cut due is complete once the batch is out of flight. -/
theorem State.flown_idle (kept : r = (s.carried b e).releasedTo r) (slots : (s.die b.seg.die).slotWait = [])
    (opened : (s.segment b.seg).state ≠ .filled)
    (few : s.uncut b.stream = 0 ∨ (s.uncut b.stream < s.geo.sectors ∧ (s.stream b.stream).sealing ≠ .pending))
    (draining : (s.stream b.stream).state ≠ .draining) (device : s.device ≠ .drain) :
    (r.endFlight b k).afterFlight b = r.endFlight b k := by
  refine State.afterFlight_idle ?_ ?_ (State.cutDue_of_few ?_) ?_ ?_
  · rw [State.flown_die kept]; exact slots
  · rw [State.flown_segment kept]; exact opened
  · rw [State.flown_uncut kept, State.flown_stream kept, State.geo, State.flown_control kept]; exact few
  · rw [State.flown_stream kept]; exact draining
  · rw [State.device, State.flown_control kept]; exact device

/-- The answer to a DONE (R110). -/
theorem donePayload_flown {u : State} {st : SegmentState} (kept : r = (s.carried b e).releasedTo r)
    (stream : (u.stream b.stream).inFlight = ((r.endFlight b k).stream b.stream).inFlight)
    (done_ : (u.segment b.seg).doneUnits = ((r.endFlight b k).segment b.seg).doneUnits)
    (state : (u.segment b.seg).state = st) (hu : b.unit = (s.segment b.seg).doneUnits) (n : Nat) : donePayload b u n =
      segField b.seg ++ two b.unit ++ two (b.unit + 1) ++ [BitVec.ofNat 8 st.number] ++
        two ((s.stream b.stream).inFlight - 1) ++ two n := by
  rw [donePayload, done_, State.flown_segment kept, stream, State.flown_stream kept, state, hu]
  rfl

end

/-- R38 for a function that is not DISABLED. -/
theorem State.lowerHeld_eq {f : Nat} (h : (s.function f).state ≠ .disabled) (n : Nat) : s.lowerHeld f n =
    (s.setFunction f { s.function f with held := (s.function f).held - n }).setBudget { s.budget with
      total := s.budget.total - n
      unused := s.budget.unused + (((s.function f).reserve - ((s.function f).held - n)) -
        ((s.function f).reserve - (s.function f).held)) } := by
  have budget := State.lowerHeld_budget n h
  have same : s.lowerHeld f n = (s.setFunction f { s.function f with held := (s.function f).held - n }).setBudget
      (s.lowerHeld f n).budget := rfl
  rw [budget] at same
  exact same

/-- R89: the closing step of a FILLED segment. -/
theorem State.segmentShut_filled {g : Seg} {failure : Bool} (ho : (s.segment g).owner = some i)
    (filled : (s.segment g).state = .filled) : s.segmentShut g failure =
      ({ s with closeSeq := s.closeSeq + 1 }.setSegment g
        ((s.segment g).close s.geo.units (s.closeSeq + 1) failure)).setStream i { s.stream i with
          writePoint := if (s.stream i).writePoint = some g then none else (s.stream i).writePoint
          finishing := if (s.stream i).finishing = some g then none else (s.stream i).finishing } := by
  have entry : s.entryShut g failure = { s with closeSeq := s.closeSeq + 1 }.setSegment g
      ((s.segment g).close s.geo.units (s.closeSeq + 1) failure) := by
    rw [State.entryShut, if_neg (filled.trans_ne (by decide))]
  rw [State.segmentShut_owned ho, entry]
  rfl

/-- R39: a release that opens the reclaim wait tells RP. -/
theorem State.releaseReclaim_does (n : Nat) {opens : Bool} (ho : opens = match s.budget.reclaimWait with
      | .budget x => decide (s.budget.reclaimHeld - n + x ≤ s.limits.reclaimHeld)
      | .records _ => false
      | .none => false) : s.Does (s.releaseReclaim n) (s.setBudget { s.budget with
        reclaimHeld := s.budget.reclaimHeld - n, reclaimWait := if opens then .none else s.budget.reclaimWait })
      (fun q => if q = .rp ∧ opens = true then [.admissionOpen none] else []) := by
  let lowered := s.setBudget { s.budget with reclaimHeld := s.budget.reclaimHeld - n }
  cases opens with
  | false =>
    have kept : s.releaseReclaim n = lowered := by
      cases hw : s.budget.reclaimWait with
      | budget x =>
        have short : ¬ s.budget.reclaimHeld - n + x ≤ s.limits.reclaimHeld := by
          rw [hw] at ho
          exact of_decide_eq_false ho.symm
        have wait : lowered.budget.reclaimWait = .budget x := hw
        exact (show lowered.openReclaimBudgetWait = lowered by
          simp only [State.openReclaimBudgetWait, wait]
          exact if_neg short)
      | records x =>
        have wait : lowered.budget.reclaimWait = .records x := hw
        exact (show lowered.openReclaimBudgetWait = lowered by simp only [State.openReclaimBudgetWait, wait])
      | none =>
        have wait : lowered.budget.reclaimWait = .none := hw
        exact (show lowered.openReclaimBudgetWait = lowered by simp only [State.openReclaimBudgetWait, wait])
    rw [kept]
    have idle : s.Does lowered lowered fun _ => [] := State.Does.of_ports rfl
    exact (idle.base_eq rfl).told_eq fun q => by simp
  | true =>
    cases hw : s.budget.reclaimWait with
    | budget x =>
      have fits : s.budget.reclaimHeld - n + x ≤ s.limits.reclaimHeld := by
        rw [hw] at ho
        exact of_decide_eq_true ho.symm
      have wait : lowered.budget.reclaimWait = .budget x := hw
      have opened : s.releaseReclaim n =
          (lowered.emit .rp (.admissionOpen none)).setBudget { lowered.budget with reclaimWait := .none } :=
        (show lowered.openReclaimBudgetWait = _ by
          simp only [State.openReclaimBudgetWait, wait]
          exact if_pos fits)
      rw [opened]
      exact ((((State.Does.of_ports (s := s) (t := lowered) rfl).emit .rp (.admissionOpen none)).map
        (fun y => y.setBudget { lowered.budget with reclaimWait := .none }) (fun _ _ => rfl) fun _ => rfl).base_eq rfl).told_eq
          fun q => by simp
    | records x => rw [hw] at ho; cases ho
    | none => rw [hw] at ho; cases ho

/-! ### The DONE of a FILLED segment's last unit (R89, R109) -/

/-- A segment whose last unit is done closes whole. -/
def Segment.finished (e : Segment) (real : Nat) (seq : Word) : Segment :=
  { e with state := .closed, nextUnit := e.doneUnits + 1, doneUnits := e.doneUnits + 1, closeSeq := seq
           written := e.written + real, valid := e.valid + real }

/-- A stream after the DONE of its finishing segment's last unit. -/
def Stream.finished (st : Stream) : Stream :=
  { st with inFlight := st.inFlight - 1, failures := 0, batchesDone := st.batchesDone + 1, finishing := none }

/-- A stream whose finishing segment g closes and that has no write point. -/
theorem Stream.finished_eq {st : Stream} {g : Seg} (point : st.writePoint = none) (finishing : st.finishing = some g) :
    ({ st with
      inFlight := st.inFlight - 1, failures := 0, batchesDone := st.batchesDone + 1
      writePoint := if st.writePoint = some g then none else st.writePoint
      finishing := if st.finishing = some g then none else st.finishing } : Stream) = st.finished := by
  have no_point : (if st.writePoint = some g then none else st.writePoint) = st.writePoint := by rw [point]; rfl
  rw [no_point, if_pos finishing]
  rfl

/-- The close of segment b.seg, at close sequence seq, with its owner's context. -/
def State.finishedBy (s : State) (b : Batch) (e : Segment) (st : Stream) (seq : Word) : State :=
  (({ s with closeSeq := seq } : State).setSegment b.seg (e.finished b.real seq)).setStream b.stream st.finished

/-- The segment of batch b is FILLED, b is its last unit, and its stream is finishing it with no write point. -/
structure State.finishes (s : State) (b : Batch) : Prop where
  filled : (s.segment b.seg).state = .filled
  last : s.geo.units = (s.segment b.seg).doneUnits + 1
  owner : (s.segment b.seg).owner = some b.stream
  point : (s.stream b.stream).writePoint = none
  finishing : (s.stream b.stream).finishing = some b.seg
  state : (s.stream b.stream).state ≠ .draining
  listed : (s.stream b.stream).state ≠ .free

namespace State.finishes
variable {r : State}

theorem all_done (h : s.finishes b) (kept : r = (s.carried b e).releasedTo r) :
    (decide ((s.segment b.seg).doneUnits + 1 < (r.endFlight b k).geo.units) || (s.segment b.seg).short) =
      (s.segment b.seg).short := by
  have units : (r.endFlight b k).geo.units = (s.segment b.seg).doneUnits + 1 := by
    rw [State.geo, State.flown_control kept]
    exact h.last
  simp [units]

theorem closed (h : s.finishes b) (kept : r = (s.carried b e).releasedTo r) (seq : Word) :
    ((r.endFlight b k).segment b.seg).close (r.endFlight b k).geo.units seq false =
      (s.segment b.seg).finished b.real seq := by
  rw [State.flown_segment kept, Segment.close_intact]
  dsimp only
  rw [h.all_done kept]
  rfl

theorem shut (h : s.finishes b) (kept : r = (s.carried b e).releasedTo r) : (r.endFlight b k).segmentShut b.seg false =
    (r.endFlight b k).finishedBy b (s.segment b.seg) (s.stream b.stream) (s.closeSeq + 1) := by
  have seq : (r.endFlight b k).closeSeq = s.closeSeq := (congrArg State.closeSeq kept).trans rfl
  have segment := State.flown_segment (k := k) kept
  have shut := State.segmentShut_filled (s := r.endFlight b k) (g := b.seg) (i := b.stream) (failure := false)
    (by rw [segment]; exact h.owner) (by rw [segment]; exact h.filled)
  have ended : ({ (r.endFlight b k).stream b.stream with
      writePoint := if ((r.endFlight b k).stream b.stream).writePoint = some b.seg then none
        else ((r.endFlight b k).stream b.stream).writePoint
      finishing := if ((r.endFlight b k).stream b.stream).finishing = some b.seg then none
        else ((r.endFlight b k).stream b.stream).finishing } : Stream) = (s.stream b.stream).finished := by
    rw [State.flown_stream kept]
    exact Stream.finished_eq h.point h.finishing
  rw [h.closed kept, seq, ended] at shut
  exact shut

theorem event (h : s.finishes b) (kept : r = (s.carried b e).releasedTo r) : (r.endFlight b k).shutEvent b.seg false =
    .segmentClosed b.seg (some b.stream) (s.segment b.seg).short (s.segment b.seg).failed := by
  rw [State.shutEvent, State.flown_segment kept]
  dsimp only
  rw [h.all_done kept, h.owner]
  rfl

theorem core {c : Core} (kept : r = (s.carried b e).releasedTo r) (assigned : (s.die b.seg.die).assigned = some c) (p : Port) :
    (r.endFlight b k).coreOf b.seg.die p = true ↔ p = c.port := by
  rw [State.coreOf, State.flown_die kept]
  dsimp only
  rw [assigned]
  exact decide_eq_true_iff

/-- The closing step, with its events. -/
theorem does {c : Core} (h : s.finishes b) (kept : r = (s.carried b e).releasedTo r)
    (assigned : (s.die b.seg.die).assigned = some c) : (r.endFlight b k).Does ((r.endFlight b k).closeSegment b.seg false)
      ((r.endFlight b k).finishedBy b (s.segment b.seg) (s.stream b.stream) (s.closeSeq + 1))
      (fun p => if p = .rp ∨ p = c.port then
        [.segmentClosed b.seg (some b.stream) (s.segment b.seg).short (s.segment b.seg).failed] else []) := by
  have does := State.closeSegment_does (s := r.endFlight b k) (g := b.seg) (failure := false)
  rw [h.shut kept, h.event kept] at does
  exact does.told_eq fun p => if_congr (or_congr Iff.rfl (core kept assigned p)) rfl rfl

/-- With no cut due the close of the segment is the last thing that such a DONE does. -/
theorem afterFlight {c : Core} (h : s.finishes b) (kept : r = (s.carried b e).releasedTo r)
    (assigned : (s.die b.seg.die).assigned = some c) (slots : (s.die b.seg.die).slotWait = [])
    (few : s.uncut b.stream = 0 ∨ (s.uncut b.stream < s.geo.sectors ∧ (s.stream b.stream).sealing ≠ .pending))
    (device : s.device ≠ .drain) : (r.endFlight b k).afterFlight b = (r.endFlight b k).closeSegment b.seg false := by
  have rest := (h.does (k := k) kept assigned).rest
  have own : ((r.endFlight b k).closeSegment b.seg false).stream b.stream = (s.stream b.stream).finished := by
    rw [rest]
    exact State.setStream_stream_same ..
  have control : ((r.endFlight b k).closeSegment b.seg false).control = s.control := by
    rw [rest]
    have same : (r.endFlight b k).control = s.control := State.flown_control kept
    exact same
  have uncut : ((r.endFlight b k).closeSegment b.seg false).uncut b.stream = s.uncut b.stream := by
    have records : ((r.endFlight b k).closeSegment b.seg false).records = (r.endFlight b k).records := by rw [rest]; rfl
    refine (State.uncut_congr ?_ records).trans (State.flown_uncut kept _)
    rw [own, State.flown_stream kept]
    rfl
  refine State.afterFlight_closes ?_ ?_ ?_ (State.cutDue_of_few ?_) ?_ ?_
  · rw [State.flown_die kept]; exact slots
  · rw [State.flown_segment kept]; exact h.filled
  · rw [State.flown_segment kept, State.geo, State.flown_control kept]; exact h.last.le
  · rw [uncut, own, State.geo, control]; exact few
  · rw [own]; exact h.state
  · rw [State.device, control]; exact device

/-- The answer to such a DONE (R110). -/
theorem answer {c : Core} (h : s.finishes b) (kept : r = (s.carried b e).releasedTo r)
    (assigned : (s.die b.seg.die).assigned = some c) (hu : b.unit = (s.segment b.seg).doneUnits) :
    donePayload b ((r.endFlight b k).closeSegment b.seg false) 0 = segField b.seg ++ two b.unit ++ two (b.unit + 1) ++ [4] ++
      two ((s.stream b.stream).inFlight - 1) ++ [0, 0] := by
  have rest := (h.does (k := k) kept assigned).rest
  have segment : ((r.endFlight b k).closeSegment b.seg false).segment b.seg =
      (s.segment b.seg).finished b.real (s.closeSeq + 1) := by
    rw [rest]
    exact State.setSegment_segment_same ..
  have stream : ((r.endFlight b k).closeSegment b.seg false).stream b.stream = (s.stream b.stream).finished := by
    rw [rest]
    exact State.setStream_stream_same ..
  exact donePayload_flown (st := .closed) (k := k) kept (by rw [stream, State.flown_stream kept]; rfl)
    (by rw [segment, State.flown_segment kept]; rfl) (by rw [segment]; rfl) hu 0

end State.finishes

/-- A state with the tables, the budget, the close sequence and the ports that the DONE of a last unit changes. -/
def State.shutTo (s : State) (segments : Table Segment) (streams : Table Stream) (budget : Budget) (seq : Word)
    (ports : Ports) : State :=
  { s with segments := segments, streams := streams, budget := budget, closeSeq := seq, ports := ports }

/-- Everything that the DONE of a last unit changes, each table once. -/
theorem State.finishedBy_rest {f : Nat} {x : State} {qs : Ports} (hx : x = s.withPorts qs) (segment : (s.segment b.seg).state ≠ .untracked)
    (stream : (s.stream b.stream).state ≠ .free) (enabled : (s.function f).state ≠ .disabled) (ps : Ports) :
    ((((x.carried b e).lowerHeld f b.real).endFlight b k).finishedBy b (x.segment b.seg) (x.stream b.stream)
      (x.closeSeq + 1)).withPorts ps =
    { (((((s.setSegment b.seg ((s.segment b.seg).finished b.real (s.closeSeq + 1))).setRecord e.record
        { s.record e.record with durable := (s.record e.record).durable + e.sectors }).setFunction f
          { s.function f with held := (s.function f).held - b.real }).setStream b.stream (s.stream b.stream).finished).setDie
            b.seg.die { s.die b.seg.die with inFlight := (s.die b.seg.die).inFlight - 1 }).freeSlot k with
      budget := { s.budget with
        total := s.budget.total - b.real
        unused := s.budget.unused + (((s.function f).reserve - ((s.function f).held - b.real)) -
          ((s.function f).reserve - (s.function f).held)) }
      closeSeq := s.closeSeq + 1, ports := ps } := by
  subst hx
  let y := (((s.withPorts qs).carried b e).lowerHeld f b.real).endFlight b k
  let closed := (s.segment b.seg).finished b.real (s.closeSeq + 1)
  have segments := congrArg State.segments (State.setSegment_setSegment s b.seg (e := { s.segment b.seg with
    doneUnits := (s.segment b.seg).doneUnits + 1, written := (s.segment b.seg).written + b.real
    valid := (s.segment b.seg).valid + b.real }) closed segment)
  have streams := congrArg State.streams (State.setStream_setStream s b.stream (v := { s.stream b.stream with
    inFlight := (s.stream b.stream).inFlight - 1, failures := 0
    batchesDone := (s.stream b.stream).batchesDone + 1 }) (s.stream b.stream).finished stream)
  have budget := State.lowerHeld_budget (s := s) (f := f) b.real enabled
  have tables : (y.finishedBy b (s.segment b.seg) (s.stream b.stream) (s.closeSeq + 1)).withPorts ps =
      y.shutTo (y.setSegment b.seg closed).segments (y.setStream b.stream (s.stream b.stream).finished).streams
        (s.lowerHeld f b.real).budget (s.closeSeq + 1) ps := rfl
  have segments' : (y.setSegment b.seg closed).segments = (s.setSegment b.seg closed).segments := segments
  have streams' : (y.setStream b.stream (s.stream b.stream).finished).streams =
    (s.setStream b.stream (s.stream b.stream).finished).streams := streams
  refine Eq.trans tables ?_
  rw [segments', streams', budget]
  simp only [State.shutTo, State.carried, State.advance, State.makeDurable, State.lowerHeld, State.endFlight,
    State.freeSlot, State.setSegment, State.setRecord, State.setFunction, State.setBudget, State.setStream, State.setDie,
    State.setSlot, State.function, State.die, State.stream, State.segment, State.slot, State.record, State.withPorts,
    closed, y]

/-- Everything that the DONE of a RECLAIM batch changes, with its release at budget B. -/
theorem State.flownReclaim_rest {x : State} {qs : Ports} (hx : x = s.withPorts qs) (B : Budget) (ps : Ports) :
    (((x.carried b e).setBudget B).endFlight b k).withPorts ps =
    { ((((s.setSegment b.seg { s.segment b.seg with
          doneUnits := (s.segment b.seg).doneUnits + 1, written := (s.segment b.seg).written + b.real
          valid := (s.segment b.seg).valid + b.real }).setRecord e.record
        { s.record e.record with durable := (s.record e.record).durable + e.sectors }).setStream b.stream
          { s.stream b.stream with
            inFlight := (s.stream b.stream).inFlight - 1, failures := 0
            batchesDone := (s.stream b.stream).batchesDone + 1 }).setDie b.seg.die
          { s.die b.seg.die with inFlight := (s.die b.seg.die).inFlight - 1 }).freeSlot k with
      budget := B, ports := ps } := by
  subst hx
  simp only [State.carried, State.advance, State.makeDurable, State.endFlight, State.freeSlot, State.setSegment,
    State.setRecord, State.setBudget, State.setStream, State.setDie, State.setSlot, State.die, State.stream, State.segment,
    State.slot, State.record, State.withPorts, State.segIndex, State.geo]

end

/-- Settles O43, clause by clause: the batch ends its flight, its segment closes with it, or its release opens a wait. -/
theorem doneAdvancesTheSegment : Obligations.DoneAdvancesTheSegment := by
  unfold Obligations.DoneAdvancesTheSegment
  intro v slot gen s c b deadline e behind hr hd i n k st fr seg die rec' response hn hc hb hgen phase place unit extents
    chain durable slots assigned few
  let x := s.setLink v.port .taken
  have held : x.heldBatch v.port n gen = some (b, deadline) :=
    State.heldBatch_eq_some_iff.mpr ⟨hb, hgen, phase, c, hc, place⟩
  have working : x.working = true := by
    have running : x.device = .run := hd
    simp [State.working, running]
  have waits : (x.carried b e).retire k = (x.carried b e, 0) := by
    refine State.retire_waits (r := e.record) (behind := behind) chain ?_
    rw [State.carried_record, if_pos rfl]
    exact durable.ne
  have act {D : State} (flown : (((x.carried b e).releaseStream k b.real).endFlight b n).afterFlight b = D) :
      requestAct i x = ⟨.ok, donePayload b D 0, D⟩ := by
    refine (batchResultDoneAct_eq (s := x) working hn held unit).trans ?_
    rw [State.done_eq extents waits, flown]
  have release (tenant : st.cls = .tenant) (calm : ∀ f, (s.function f).wait = .none) :
      (x.carried b e).releaseStream k b.real = (x.carried b e).lowerHeld st.owner b.real := by
    have class_eq : ((x.carried b e).stream k).cls = .tenant := tenant
    refine (State.releaseStream_quiet b.real (by rw [class_eq]; exact calm)).trans ?_
    rw [class_eq]
    rfl
  refine ⟨?_, ?_, ?_⟩
  · intro opened active tenant enabled calm
    let u := ((s.carried b e).lowerHeld st.owner b.real).endFlight b n
    have kept : (x.carried b e).lowerHeld st.owner b.real =
      (x.carried b e).releasedTo ((x.carried b e).lowerHeld st.owner b.real) := rfl
    have idle := State.flown_idle (k := n) kept slots (opened.trans_ne (by decide)) few (active.trans_ne (by decide))
      (hd.trans_ne (by decide))
    have eq := exec_calm (u := u) hr (act ((congrArg (fun y : State => (y.endFlight b n).afterFlight b)
      (release tenant calm)).trans idle)) fun p => (Bool.eq_false_or_eq_true (u.notice p)).imp_left fun some_ => by
        exact State.freeSlot_notice p some_
    have answer : donePayload b (u.setLink v.port .taken) 0 = response 2 :=
      donePayload_flown (k := n) (st := .opened) kept rfl rfl
        ((congrArg Segment.state (State.flown_segment kept)).trans opened) unit 0
    have flown : u = _ := congrArg (State.endFlight · b n)
      (State.lowerHeld_eq (s := s.carried b e) (f := st.owner) (enabled.trans_ne (by decide)) b.real)
    refine eq.trans ?_
    refine (congrArg (fun y => Host.Outcome.next (u.answered i .ok y)) answer).trans ?_
    rw [flown]
    rfl
  · intro filled last owner point finishing state tenant enabled calm
    let r := (x.carried b e).lowerHeld st.owner b.real
    have kept : r = (x.carried b e).releasedTo r := rfl
    have finishes : x.finishes b := ⟨filled, last, owner, point, finishing,
      by rcases state with h | h <;> exact h.trans_ne (by decide), by rcases state with h | h <;> exact h.trans_ne (by decide)⟩
    have shut := finishes.afterFlight (k := n) kept assigned slots few (hd.trans_ne (by decide))
    have requested := act ((congrArg (fun z : State => (z.endFlight b n).afterFlight b) (release tenant calm)).trans shut)
    rw [finishes.answer kept assigned unit] at requested
    obtain ⟨t, executed, answered, delivers, rest⟩ := exec_answers hr requested
      ((finishes.does (k := n) kept assigned).after rfl)
    refine ⟨t, executed, answered, rest.trans ?_, delivers⟩
    exact State.finishedBy_rest (k := n) (State.setLink_eq ..) (filled.trans_ne (by decide)) finishes.listed (enabled.trans_ne (by decide)) t.ports
  · intro opened active reclaim left opens
    have class_eq : ((x.carried b e).stream k).cls = .reclaim := reclaim
    have released : (x.carried b e).releaseStream k b.real = (x.carried b e).releaseReclaim b.real := by
      simp only [State.releaseStream, class_eq]
    have does := State.releaseReclaim_does (s := x.carried b e) b.real (opens := opens) rfl
    generalize (x.carried b e).releaseReclaim b.real = r at released does
    have kept : r = (x.carried b e).releasedTo r := by
      have functions : r.functions = x.functions := by rw [does.rest]; rfl
      have budget : r.budget = { s.budget with
          reclaimHeld := left, reclaimWait := if opens then .none else s.budget.reclaimWait } := by rw [does.rest]; rfl
      rw [State.releasedTo, functions, budget]
      exact does.rest
    have idle := State.flown_idle (k := n) kept slots (opened.trans_ne (by decide)) few (active.trans_ne (by decide))
      (hd.trans_ne (by decide))
    have requested := act ((congrArg (fun y : State => (y.endFlight b n).afterFlight b) released).trans idle)
    have answer : donePayload b (r.endFlight b n) 0 = response 2 :=
      donePayload_flown (k := n) (st := .opened) kept rfl rfl
        ((congrArg Segment.state (State.flown_segment kept)).trans opened) unit 0
    rw [answer] at requested
    obtain ⟨t, executed, answered, delivers, rest⟩ := exec_answers hr requested
      (State.Does.after (s := x) (does.map (fun y => y.endFlight b n) (fun _ _ => rfl) fun _ => rfl) rfl)
    exact ⟨t, executed, answered, rest.trans (State.flownReclaim_rest (State.setLink_eq ..) _ _), delivers⟩

end Sys2Proof.Machine
end

section
/-! A DONE whose record becomes durable (R54, R110): the settlement of O44. -/

namespace Sys2Proof.Machine

section
variable {s : State} {b : Batch} {e : Extent} {i k r f : Nat} {cls : StreamClass}

/-- R54: a chain of one record that is durable retires, with its record. -/
theorem State.retire_one (chain : (s.stream i).chain = [r]) (class_eq : (s.stream i).cls = cls)
    (owner : (s.stream i).owner = f) (durable : (s.record r).durable = (s.record r).stop)
    (ho : (s.record r).origin.isOf cls f) (hf : s.freesQuietly cls f) (flush : s.flushesQuietly cls f)
    (hs : (s.stream (s.record r).stream).state ≠ .draining) (none_waits : s.reports = []) (room : s.hasRoom cls.port = true) :
    s.retire i = (((s.unchained i).freed cls f r).emit cls.port (s.retireEvent r), 1) := by
  have head := State.retireHead_quiet (i := i) ho hf hs none_waits room
  have run : State.retireFor 1 s i = (s.retireHead i r, 1) := by
    simp only [State.retireFor, chain, durable, if_true]
  have eq : s.retire i = ((s.retireHead i r).afterRun cls f 1, 1) := by
    simp only [State.retire, chain, List.length_singleton, run, owner, class_eq]
  have quiet : (s.retireHead i r).flushesQuietly cls f := fun h => by
    rw [head, State.emit_eq, h]
    have own : ((s.unchained i).freedTenant r f).function f = _ := State.setFunction_function_same ..
    exact (congrArg Function.flush own).trans (flush h)
  rw [eq, State.afterRun_quiet quiet, head]
  rfl

/-- The last record of a stream's chain retires with the DONE of batch b. -/
def State.retiredBy (s : State) (b : Batch) (e : Extent) (f : Nat) : State :=
  ((s.carried b e).unchained b.stream).freedTenant e.record f

/-- A stream after the DONE of the last batch of its chain. -/
def Stream.emptied (st : Stream) : Stream :=
  { st with inFlight := st.inFlight - 1, failures := 0, batchesDone := st.batchesDone + 1, chain := [] }

/-- A function after its record retired with a DONE of k sectors. -/
def Function.relieved (fr : Function) (k : Nat) : Function := { fr with held := fr.held - k, outstanding := fr.outstanding - 1 }

/-- A state with the tables, the budget and the ports that such a DONE changes. -/
def State.relievedTo (s : State) (streams : Table Stream) (records : Table Fragment) (functions : Table Function)
    (budget : Budget) (ports : Ports) : State :=
  { s with streams := streams, records := records, functions := functions, budget := budget, ports := ports }

/-- Everything that a DONE changes whose record retires, each table once. -/
theorem State.retiredBy_rest {x : State} {qs : Ports} {serial : Word} (hx : x = s.withPorts qs)
    (ho : (s.record e.record).origin = .tenant f serial) (chain : (s.stream b.stream).chain = [e.record])
    (listed : (s.stream b.stream).state ≠ .free) (enabled : (s.function f).state ≠ .disabled) (ps : Ports) :
    (((x.retiredBy b e f).lowerHeld f b.real).endFlight b k).withPorts ps =
    { (((((s.setSegment b.seg { s.segment b.seg with
          doneUnits := (s.segment b.seg).doneUnits + 1, written := (s.segment b.seg).written + b.real
          valid := (s.segment b.seg).valid + b.real }).setRecord e.record .powerOn).setFunction f
            ((s.function f).relieved b.real)).setStream b.stream (s.stream b.stream).emptied).setDie b.seg.die
          { s.die b.seg.die with inFlight := (s.die b.seg.die).inFlight - 1 }).freeSlot k with
      budget := { s.budget with
        total := s.budget.total - b.real
        unused := s.budget.unused + (((s.function f).reserve - ((s.function f).held - b.real)) -
          ((s.function f).reserve - (s.function f).held)) }
      tenantInUse := s.tenantInUse - 1, ports := ps } := by
  subst hx
  let y := (((s.withPorts qs).retiredBy b e f).lowerHeld f b.real).endFlight b k
  have records := congrArg State.records (State.setRecord_setRecord s e.record (v := { s.record e.record with
    durable := (s.record e.record).durable + e.sectors }) .powerOn fun same => by
      have origin : (s.record e.record).origin = .reclaim := (congrArg Fragment.origin same).trans rfl
      rw [ho] at origin; cases origin)
  have functions := congrArg State.functions (State.setFunction_setFunction s f (v := { s.function f with
    outstanding := (s.function f).outstanding - 1 }) ((s.function f).relieved b.real) fun same =>
      enabled ((congrArg Function.state same).trans rfl))
  have streams := congrArg State.streams (State.setStream_setStream s b.stream (v := { s.stream b.stream with
    chain := (s.stream b.stream).chain.tail }) (s.stream b.stream).emptied listed)
  have left_function : ((s.withPorts qs).retiredBy b e f).function f =
    { s.function f with outstanding := (s.function f).outstanding - 1 } := State.setFunction_function_same ..
  have left_stream : (((s.withPorts qs).retiredBy b e f).lowerHeld f b.real).stream b.stream =
    { s.stream b.stream with chain := (s.stream b.stream).chain.tail } := State.setStream_stream_same ..
  have y_streams : y.streams = (s.setStream b.stream (s.stream b.stream).emptied).streams := by
    have written : y.streams = Table.write Stream.powerOn ((s.setStream b.stream { s.stream b.stream with
        chain := (s.stream b.stream).chain.tail }).streams) b.stream { ((((s.withPorts qs).retiredBy b e f).lowerHeld
          f b.real).stream b.stream) with
            inFlight := ((((s.withPorts qs).retiredBy b e f).lowerHeld f b.real).stream b.stream).inFlight - 1
            failures := 0
            batchesDone := ((((s.withPorts qs).retiredBy b e f).lowerHeld f b.real).stream b.stream).batchesDone + 1 } := rfl
    rw [left_stream, chain] at written
    rw [chain] at streams
    exact written.trans streams
  have y_functions : y.functions = (s.setFunction f ((s.function f).relieved b.real)).functions := by
    have written : y.functions = Table.write Function.powerOn ((s.setFunction f { s.function f with
        outstanding := (s.function f).outstanding - 1 }).functions) f { ((s.withPorts qs).retiredBy b e f).function f with
          held := (((s.withPorts qs).retiredBy b e f).function f).held - b.real } := rfl
    rw [left_function] at written
    exact written.trans functions
  have y_records : y.records = (s.setRecord e.record .powerOn).records := records
  have budget := State.lowerHeld_budget (s := (s.withPorts qs).retiredBy b e f) (f := f) b.real
    (by rw [left_function]; exact enabled)
  rw [left_function] at budget
  have tables : y.withPorts ps = y.relievedTo y.streams y.records y.functions
    (((s.withPorts qs).retiredBy b e f).lowerHeld f b.real).budget ps := rfl
  refine Eq.trans tables ?_
  rw [y_streams, y_records, y_functions, budget]
  simp only [State.relievedTo, State.retiredBy, State.unchained, State.freedTenant, State.carried, State.advance,
    State.makeDurable, State.lowerHeld, State.endFlight, State.freeSlot, State.setSegment, State.setRecord,
    State.setFunction, State.setBudget, State.setStream, State.setDie, State.setSlot, State.die, State.segment, State.slot,
    State.segIndex, State.geo, State.withPorts, y]

/-- Batch b brings the last sectors of its stream's only record, whose retirement and release have no consequence. -/
structure State.carriesLast (s : State) (b : Batch) (e : Extent) : Prop where
  extents : b.extents = [e]
  opened : (s.segment b.seg).state = .opened
  slots : (s.die b.seg.die).slotWait = []
  active : (s.stream b.stream).state = .active
  tenant : (s.stream b.stream).cls = .tenant
  chain : (s.stream b.stream).chain = [e.record]
  origin : ∃ serial, (s.record e.record).origin = .tenant (s.stream b.stream).owner serial
  stream : (s.record e.record).stream = b.stream
  mark : (s.record e.record).mark = none
  durable : (s.record e.record).durable + e.sectors = (s.record e.record).sectors
  fence : (s.function (s.stream b.stream).owner).fence = none
  flush : (s.function (s.stream b.stream).owner).flush = .none
  calm : ∀ g, (s.function g).wait = .none
  reports : s.reports = []
  room : s.hasRoom .fp = true
  device : s.device ≠ .drain

/-- The record's event. -/
def State.durableEvent (s : State) (b : Batch) (e : Extent) : Event := .fragmentDone (s.record e.record).tag b.stream .durable

/-- The state after such a DONE has retired its record. -/
def State.retiredWith (s : State) (b : Batch) (e : Extent) : State :=
  (s.retiredBy b e (s.stream b.stream).owner).emit .fp (s.durableEvent b e)

/-- The state after such a DONE. -/
def State.doneWith (s : State) (b : Batch) (e : Extent) (k : Nat) : State :=
  ((s.retiredWith b e).lowerHeld (s.stream b.stream).owner b.real).endFlight b k

namespace State.carriesLast

theorem retire (h : s.carriesLast b e) : (s.carried b e).retire b.stream = (s.retiredWith b e, 1) := by
  obtain ⟨serial, origin⟩ := h.origin
  have record : (s.carried b e).record e.record =
      { s.record e.record with durable := (s.record e.record).durable + e.sectors } := State.setRecord_record_same ..
  have one_ := State.retire_one (s := s.carried b e) (i := b.stream) (r := e.record) (cls := .tenant)
    (f := (s.stream b.stream).owner) h.chain h.tenant rfl
    (by rw [record, Fragment.stop]; exact h.durable.trans (by rw [h.mark]; rfl)) (by rw [record]; exact ⟨serial, origin⟩)
    ⟨h.fence, fun g m => by rw [show (s.carried b e).function g = s.function g from rfl, h.calm]; simp⟩ (fun _ => h.flush)
    (by rw [record]; exact (congrArg (fun j => (s.stream j).state) h.stream).trans_ne (h.active.trans_ne (by decide)))
    h.reports h.room
  have event : (s.carried b e).retireEvent e.record = s.durableEvent b e := by
    rw [State.retireEvent, record, Fragment.retireStatus, State.durableEvent]
    simp [h.mark, h.stream]
  rw [event] at one_
  exact one_

theorem reported (s : State) (b : Batch) (e : Extent) : s.Does (s.retiredWith b e)
    (s.retiredBy b e (s.stream b.stream).owner) (fun q => if q = .fp then [s.durableEvent b e] else []) :=
  ((State.Does.of_ports (s := s) (t := s.retiredBy b e (s.stream b.stream).owner) rfl).emit .fp
    (s.durableEvent b e)).told_eq fun _ => List.nil_append _

theorem does (s : State) (b : Batch) (e : Extent) (k : Nat) : s.Does (s.doneWith b e k)
    (((s.retiredBy b e (s.stream b.stream).owner).lowerHeld (s.stream b.stream).owner b.real).endFlight b k)
    (fun q => if q = .fp then [s.durableEvent b e] else []) :=
  ((reported s b e).map (fun z => z.lowerHeld (s.stream b.stream).owner b.real) (fun _ _ => rfl) fun _ => rfl).map
    (fun z => z.endFlight b k) (fun _ _ => rfl) fun _ => rfl

theorem retired_stream (s : State) (b : Batch) (e : Extent) : (s.retiredWith b e).stream b.stream =
    { s.stream b.stream with chain := (s.stream b.stream).chain.tail } := by
  rw [(reported s b e).rest]
  exact State.setStream_stream_same ..

theorem release (h : s.carriesLast b e) : (s.retiredWith b e).releaseStream b.stream b.real =
    (s.retiredWith b e).lowerHeld (s.stream b.stream).owner b.real := by
  have class_eq : ((s.retiredWith b e).stream b.stream).cls = .tenant := by rw [retired_stream]; exact h.tenant
  have owner : ((s.retiredWith b e).stream b.stream).owner = (s.stream b.stream).owner := by rw [retired_stream]
  refine (State.releaseStream_quiet b.real ?_).trans ?_
  · rw [class_eq]
    intro g
    rw [(reported s b e).rest]
    refine (congrArg Function.wait (State.setFunction_function ..)).trans ?_
    split
    · exact h.calm _
    · exact h.calm g
  · rw [class_eq, owner]
    rfl

theorem left_stream (h : s.carriesLast b e) (k : Nat) :
    (s.doneWith b e k).stream b.stream = (s.stream b.stream).emptied := by
  have same : ((s.retiredWith b e).lowerHeld (s.stream b.stream).owner b.real).stream b.stream = _ := retired_stream s b e
  refine State.endFlight_stream.trans ?_
  rw [same, h.chain]
  rfl

theorem left_segment (s : State) (b : Batch) (e : Extent) (k : Nat) :
    (s.doneWith b e k).segment b.seg = (s.carried b e).segment b.seg := by
  rw [(does s b e k).rest]
  rfl

theorem idle (h : s.carriesLast b e) (k : Nat) : (s.doneWith b e k).afterFlight b = s.doneWith b e k := by
  have stream := h.left_stream k
  refine State.afterFlight_idle ?_ ?_ (State.cutDue_none ?_) ?_ ?_
  · have same : ((s.retiredWith b e).lowerHeld (s.stream b.stream).owner b.real).die b.seg.die = s.die b.seg.die := by
      have kept : (s.retiredWith b e).die b.seg.die = s.die b.seg.die := by rw [(reported s b e).rest]; rfl
      exact kept
    refine (congrArg Die.slotWait State.endFlight_die).trans ?_
    rw [same]
    exact h.slots
  · rw [left_segment, State.carried_segment]
    exact h.opened.trans_ne (by decide)
  · rw [State.uncut, stream]
    rfl
  · rw [stream]
    exact h.active.trans_ne (by decide)
  · have same : (s.doneWith b e k).device = s.device := by rw [(does s b e k).rest]; rfl
    exact same.trans_ne h.device

theorem done (h : s.carriesLast b e) (k : Nat) : s.done b k = (s.doneWith b e k, 1) := by
  rw [State.done_eq h.extents h.retire, h.release]
  exact congrArg (·, 1) (h.idle k)

/-- The answer (R110). -/
theorem answer (h : s.carriesLast b e) (hu : b.unit = (s.segment b.seg).doneUnits) (k : Nat) :
    donePayload b (s.doneWith b e k) 1 = segField b.seg ++ two b.unit ++ two (b.unit + 1) ++ [2] ++
      two ((s.stream b.stream).inFlight - 1) ++ [1, 0] :=
  donePayload_flown (r := s.carried b e) (e := e) (k := k) (st := .opened) rfl
    (by rw [h.left_stream, State.endFlight_stream]; rfl) (by rw [left_segment]; rfl)
    (by rw [left_segment, State.carried_segment]; exact h.opened) hu 1

end State.carriesLast

end

/-- Settles O44: the record that becomes durable is the whole chain, and its stream has nothing uncut. -/
theorem doneRetiresTheRecord : Obligations.DoneRetiresTheRecord := by
  unfold Obligations.DoneRetiresTheRecord
  intro v slot gen s c b deadline e serial hr hd i n k st fr seg die rec' hn hc hb hgen phase place unit opened extents
    active tenant chain origin stream mark placed durable enabled fence flush calm slots assigned none_waits room
  let x := s.setLink v.port .taken
  have last : x.carriesLast b e := {
    extents := extents, opened := opened, slots := slots, active := active, tenant := tenant, chain := chain
    origin := ⟨serial, origin⟩, stream := stream, mark := mark, durable := durable, fence := fence, flush := flush
    calm := calm, reports := none_waits
    room := (State.setLink_hasRoom s v.port .taken .fp).trans (decide_eq_true (room .fp)), device := hd.trans_ne (by decide) }
  have held : x.heldBatch v.port n gen = some (b, deadline) :=
    State.heldBatch_eq_some_iff.mpr ⟨hb, hgen, phase, c, hc, place⟩
  have working : x.working = true := by
    have running : x.device = .run := hd
    simp [State.working, running]
  have act : requestAct i x = ⟨.ok, donePayload b (x.done b n).1 (x.done b n).2, (x.done b n).1⟩ :=
    batchResultDoneAct_eq (s := x) working hn held unit
  rw [last.done, last.answer unit] at act
  obtain ⟨t, executed, answered, delivers, rest⟩ := exec_answers hr act (State.carriesLast.does x b e n)
  refine ⟨t, executed, answered, rest.trans ?_, delivers.tells_of_roomFor room fun p => ?_⟩
  · exact State.retiredBy_rest (State.setLink_eq ..) origin chain (active.trans_ne (by decide))
      (enabled.trans_ne (by decide)) _
  · split <;> simp

end Sys2Proof.Machine
end

section
/-! An accepted FAILED result (R114 to R119): the settlement of O45. -/

namespace Sys2Proof.Machine

/-! ### Sorting by a key -/

theorem insertBy_perm (key : Nat → Nat) (x : Nat) (l : List Nat) : (insertBy key x l).Perm (x :: l) := by
  induction l with
  | nil => exact .refl _
  | cons y l ih =>
    rw [insertBy]
    split
    · exact .refl _
    · exact (ih.cons y).trans (.swap x y l)

theorem sortBy_perm (key : Nat → Nat) (l : List Nat) : (sortBy key l).Perm l := by
  induction l with
  | nil => exact .refl _
  | cons x l ih => exact (insertBy_perm key x _).trans (ih.cons x)

theorem insertBy_sorted (key : Nat → Nat) (x : Nat) {l : List Nat} (h : l.Pairwise fun a b => key a ≤ key b) :
    (insertBy key x l).Pairwise fun a b => key a ≤ key b := by
  induction l with
  | nil => exact List.pairwise_singleton _ _
  | cons y l ih =>
    obtain ⟨first, rest⟩ := List.pairwise_cons.mp h
    rw [insertBy]
    split
    · rename_i before
      refine List.pairwise_cons.mpr ⟨fun b hb => ?_, h⟩
      rcases List.mem_cons.mp hb with rfl | hb
      · exact before.le
      · exact before.le.trans (first b hb)
    · rename_i after
      refine List.pairwise_cons.mpr ⟨fun b hb => ?_, ih rest⟩
      rcases List.mem_cons.mp ((insertBy_perm key x l).mem_iff.mp hb) with rfl | hb
      · exact not_lt.mp after
      · exact first b hb

theorem sortBy_sorted (key : Nat → Nat) (l : List Nat) : (sortBy key l).Pairwise fun a b => key a ≤ key b := by
  induction l with
  | nil => exact .nil
  | cons x l ih => exact insertBy_sorted key x ih

/-- A list in strict order of a key is the sorted form of every list of the same elements. -/
theorem sortBy_eq {key : Nat → Nat} {l ks : List Nat} (distinct : l.Nodup) (members : ∀ x, x ∈ l ↔ x ∈ ks)
    (ordered : ks.Pairwise fun a b => key a < key b) : sortBy key l = ks := by
  have ks_distinct : ks.Nodup := ordered.imp fun h same => absurd h (by rw [same]; exact lt_irrefl _)
  have perm : (sortBy key l).Perm ks :=
    (sortBy_perm key l).trans ((List.perm_ext_iff_of_nodup distinct ks_distinct).mpr members)
  have keys : ks.Pairwise fun a b => key a ≠ key b := ordered.imp fun h => h.ne
  refine List.Perm.eq_of_pairwise (fun a b ha hb le ge => ?_) (sortBy_sorted key l) (ordered.imp fun h => h.le) perm
  by_contra other
  have symmetric : Std.Symm fun a b => key a ≠ key b := ⟨fun _ _ h => h.symm⟩
  exact keys.forall (perm.mem_iff.mp ha) hb other (le_antisymm le ge)

/-! ### Batches that leave flight without a result (R114) -/

section
variable {s : State} {i : Nat}

theorem State.mem_flightOf (n : Nat) : n ∈ s.flightOf i ↔ ∃ x, (s.slot n).batch = some x ∧ x.stream = i := by
  cases hb : (s.slot n).batch with
  | none =>
    have free : s.batchOfStream i n = none := by simp only [State.batchOfStream, hb]
    simp [State.flightOf, free]
  | some b =>
    have listed : n ∈ Table.indices s.slots := by
      refine Table.mem_indices .powerOn _ _ fun same => ?_
      have free : (s.slot n).batch = none := congrArg Slot.batch same
      rw [hb] at free; cases free
    have own : (s.batchOfStream i n).isSome = true ↔ b.stream = i := by
      simp only [State.batchOfStream, hb]
      split <;> simp [*]
    rw [State.flightOf, List.mem_filter, own]
    exact ⟨fun h => ⟨b, rfl, h.2⟩, fun ⟨x, hx, hi⟩ => ⟨listed, by cases hx; exact hi⟩⟩

theorem State.flightOf_nodup (canonical : Table.canonical .powerOn s.slots = true) (i : Nat) : (s.flightOf i).Nodup :=
  ((Table.indices_pairwise Slot.powerOn s.slots 0 canonical).2.imp fun h => Nat.ne_of_lt h).filter _

/-- The queues with the slots that p keeps. -/
def Queues.keep (q : Queues) (p : Nat → Bool) : Queues :=
  { core0 := q.core0.filter p, core1 := q.core1.filter p, parked := q.parked.filter p }

theorem Queues.keep_keep (q : Queues) (p p' : Nat → Bool) : (q.keep p).keep p' = q.keep fun m => p m && p' m := by
  simp only [Queues.keep, List.filter_filter, Bool.and_comm]

theorem Queues.keep_at (q : Queues) (p : Nat → Bool) (pl : Place) : (q.keep p).at pl = (q.at pl).filter p := by
  rcases pl with (_ | _) | _ <;> rfl

theorem Queues.keep_congr {q : Queues} {p p' : Nat → Bool} (h : ∀ m, p m = p' m) : q.keep p = q.keep p' := by
  rw [funext h]

/-- The batches in the slots end. -/
def State.freedSlots (s : State) (ks : List Nat) : State := ks.foldl State.freeSlot s

theorem State.freedSlots_rest (ks : List Nat) : s.freedSlots ks = { s with
    slots := (s.freedSlots ks).slots, queues := s.queues.keep fun m => !ks.contains m } := by
  induction ks generalizing s with
  | nil =>
    have all : s.queues.keep (fun m => !([] : List Nat).contains m) = s.queues := by simp [Queues.keep]
    rw [all]
    rfl
  | cons k ks ih =>
    have step : s.freedSlots (k :: ks) = (s.freeSlot k).freedSlots ks := rfl
    have one_ : (s.freeSlot k).queues = s.queues.keep fun m => m ≠ k := rfl
    have rest := ih (s := s.freeSlot k)
    rw [one_, Queues.keep_keep] at rest
    rw [step]
    have both : (s.queues.keep fun m => (decide (m ≠ k)) && !ks.contains m) = s.queues.keep fun m => !(k :: ks).contains m :=
      Queues.keep_congr fun m => by simp
    rw [both] at rest
    exact rest

theorem State.freeSlot_slot (k m : Nat) : (s.freeSlot k).slot m =
    if m = k then { gen := (s.slot k).gen + 1, batch := none } else s.slot m := State.setSlot_slot ..

theorem State.freedSlots_slot {ks : List Nat} (distinct : ks.Nodup) (m : Nat) : (s.freedSlots ks).slot m =
    if m ∈ ks then { gen := (s.slot m).gen + 1, batch := none } else s.slot m := by
  induction ks generalizing s with
  | nil => simp [State.freedSlots]
  | cons k ks ih =>
    obtain ⟨fresh, distinct⟩ := List.nodup_cons.mp distinct
    have step : s.freedSlots (k :: ks) = (s.freeSlot k).freedSlots ks := rfl
    rw [step, ih distinct, State.freeSlot_slot]
    by_cases hm : m = k
    · subst hm; simp [fresh]
    · simp [hm]

theorem State.withdraw_rest (d : Nat) (ks : List Nat) : s.withdraw i d ks = { (s.setStream i { s.stream i with
    inFlight := (s.stream i).inFlight - ks.length }).setDie d { s.die d with inFlight := (s.die d).inFlight - ks.length } with
      slots := (s.freedSlots ks).slots, queues := (s.freedSlots ks).queues } := by
  have rest : s.freedSlots ks = { s with slots := (s.freedSlots ks).slots, queues := (s.freedSlots ks).queues } := by
    have queues : (s.freedSlots ks).queues = s.queues.keep fun m => !ks.contains m := by rw [State.freedSlots_rest]
    rw [queues]
    exact State.freedSlots_rest ks
  have stream : (s.freedSlots ks).stream i = s.stream i := (congrArg (State.stream · i) rest).trans rfl
  have die : (s.freedSlots ks).die d = s.die d := (congrArg (State.die · d) rest).trans rfl
  have eq : s.withdraw i d ks = ((s.freedSlots ks).setStream i { (s.freedSlots ks).stream i with
      inFlight := ((s.freedSlots ks).stream i).inFlight - ks.length }).setDie d { (s.freedSlots ks).die d with
        inFlight := ((s.freedSlots ks).die d).inFlight - ks.length } := rfl
  rw [stream, die] at eq
  have both := congrArg (fun y : State => (y.setStream i { s.stream i with
    inFlight := (s.stream i).inFlight - ks.length }).setDie d { s.die d with
      inFlight := (s.die d).inFlight - ks.length }) rest
  exact eq.trans both

/-! ### The rewind (R53, R115) -/

theorem State.foldl_unplace_rest (rs : List Nat) : rs.foldl State.unplace s = { s with
    records := (rs.foldl State.unplace s).records } := by
  induction rs generalizing s with
  | nil => rfl
  | cons r rs ih => exact ih (s := s.unplace r)

theorem State.foldl_unplace_record (rs : List Nat) (x : Nat) : (rs.foldl State.unplace s).record x =
    if x ∈ rs then { s.record x with placed := 0 } else s.record x := by
  induction rs generalizing s with
  | nil => simp
  | cons r rs ih =>
    rw [List.foldl_cons, ih, State.unplace, State.setRecord_record]
    by_cases hx : x = r
    · subst hx; simp
    · simp [hx]

theorem dropWhile_split {front behind : List Nat} {r : Nat} (fresh : r ∉ front) :
    (front ++ r :: behind).dropWhile (fun x => x ≠ r) = r :: behind := by
  induction front with
  | nil => simp
  | cons x front ih =>
    obtain ⟨other, fresh⟩ := not_or.mp (fun h => fresh (List.mem_cons.mpr h))
    simpa [Ne.symm other] using ih fresh

theorem State.rewind_split {r offset : Nat} {front behind : List Nat} (chain : (s.stream i).chain = front ++ r :: behind)
    (fresh : r ∉ front) : s.rewind i r offset =
      behind.foldl State.unplace (s.setRecord r { s.record r with placed := offset }) := by
  simp only [State.rewind, chain, dropWhile_split fresh]

/-! ### A write point that is lost (R116, R125) -/

/-- A segment that closes with its failed mark. -/
def Segment.broken (e : Segment) (units : Nat) (seq : Word) : Segment :=
  { e with state := .closed, nextUnit := e.doneUnits, closeSeq := seq
           short := decide (e.doneUnits < units) || e.short, failed := true }

theorem Segment.close_broken (e : Segment) (units : Nat) (seq : Word) : e.close units seq true = e.broken units seq := by
  simp only [Segment.close, Segment.broken, if_true]
  congr 1
  split <;> simp [*]

/-- Stream i has lost its write point g, closed short with the failed mark. -/
def State.lost (s : State) (i : Nat) (g : Seg) : State :=
  { ((s.setSegment g ((s.segment g).broken s.geo.units (s.closeSeq + 1))).setDie g.die { s.die g.die with
      openPoints := (s.die g.die).openPoints - 1 }).setStream i { s.stream i with state := .idle, writePoint := none } with
    closeSeq := s.closeSeq + 1 }

/-- An ACTIVE stream i has the OPEN segment g as its write point, on a die of core c for which no stream waits. -/
structure State.losable (s : State) (i : Nat) (g : Seg) (c : Core) : Prop where
  opened : (s.segment g).state = .opened
  owner : (s.segment g).owner = some i
  point : (s.stream i).writePoint = some g
  finishing : (s.stream i).finishing = none
  active : (s.stream i).state = .active
  slots : (s.die g.die).slotWait = []
  assigned : (s.die g.die).assigned = some c

theorem State.setDie_same {d : Nat} (h : s.die d ≠ .powerOn) : s.setDie d (s.die d) = s := by
  have table : Table.write Die.powerOn s.dies d (s.die d) = s.dies := Table.write_read_of_ne _ _ _ h
  rw [State.setDie, table]

/-- The event of a close with the failed mark. -/
def State.brokenEvent (s : State) (i : Nat) (g : Seg) : Event :=
  .segmentClosed g (some i) (decide ((s.segment g).doneUnits < s.geo.units) || (s.segment g).short) true

namespace State.losable
variable {g : Seg} {c : Core}

theorem shut (h : s.losable i g c) : s.segmentShut g true = { ((s.setSegment g
    ((s.segment g).broken s.geo.units (s.closeSeq + 1))).setDie g.die { s.die g.die with
      openPoints := (s.die g.die).openPoints - 1 }).setStream i { s.stream i with writePoint := none } with
        closeSeq := s.closeSeq + 1 } := by
  have entry : s.entryShut g true = { (s.setSegment g ((s.segment g).broken s.geo.units (s.closeSeq + 1))).setDie g.die
      { s.die g.die with openPoints := (s.die g.die).openPoints - 1 } with closeSeq := s.closeSeq + 1 } := by
    rw [State.entryShut, if_pos h.opened, Segment.close_broken]
    rfl
  have gone : ({ s.stream i with
      writePoint := if (s.stream i).writePoint = some g then none else (s.stream i).writePoint
      finishing := if (s.stream i).finishing = some g then none else (s.stream i).finishing } : Stream) =
      { s.stream i with writePoint := none } := by
    rw [if_pos h.point, h.finishing, if_neg (by simp), ← h.finishing]
  rw [State.segmentShut_owned h.owner, entry, ← gone]
  rfl

/-- The stream leaves the die's slot wait list, on which it does not stand, and becomes IDLE. -/
theorem lost_eq (h : s.losable i g c) : ((s.segmentShut g true).leaveSlotWait g.die i).setStream i
    { ((s.segmentShut g true).leaveSlotWait g.die i).stream i with
      state := (((s.segmentShut g true).leaveSlotWait g.die i).stream i).state.losePoint } = s.lost i g := by
  have die : (s.segmentShut g true).die g.die = { s.die g.die with openPoints := (s.die g.die).openPoints - 1 } := by
    rw [h.shut]; exact State.setDie_die_same ..
  have assigned : ((s.segmentShut g true).die g.die).assigned = some c := by rw [die]; exact h.assigned
  have stays : (s.segmentShut g true).leaveSlotWait g.die i = s.segmentShut g true := by
    have none_waits : ((s.segmentShut g true).die g.die).slotWait = [] := by rw [die]; exact h.slots
    have unchanged : ({ (s.segmentShut g true).die g.die with
        slotWait := ((s.segmentShut g true).die g.die).slotWait.filter (· ≠ i) } : Die) =
        (s.segmentShut g true).die g.die := by rw [none_waits, List.filter_nil, ← none_waits]
    exact (congrArg (State.setDie _ g.die) unchanged).trans (State.setDie_same fun same => by
      rw [same] at assigned; cases assigned)
  have stream : (s.segmentShut g true).stream i = { s.stream i with writePoint := none } := by
    rw [h.shut]; exact State.setStream_stream_same ..
  have idle : ((s.stream i).state).losePoint = .idle := by rw [h.active]; rfl
  rw [stays, stream]
  have merged := congrArg (fun x : State => { x with closeSeq := s.closeSeq + 1 })
    (State.setStream_setStream ((s.setSegment g ((s.segment g).broken s.geo.units (s.closeSeq + 1))).setDie g.die
      { s.die g.die with openPoints := (s.die g.die).openPoints - 1 }) i (v := { s.stream i with writePoint := none })
        { s.stream i with state := (s.stream i).state.losePoint, writePoint := none } (h.active.trans_ne (by decide)))
  rw [h.shut, State.lost, ← idle]
  exact merged

/-- R116, R125: the segment closes and is told to its die's core and RP. -/
theorem does (h : s.losable i g c) : s.Does (s.loseSegment i g) (s.lost i g)
    (fun q => if q = .rp ∨ q = c.port then [s.brokenEvent i g] else []) := by
  have shut := State.closeSegment_does (s := s) (g := g) (failure := true)
  have lose := (shut.map (fun y => y.leaveSlotWait g.die i) (fun _ _ => rfl) fun _ => rfl).map
    (fun y => y.setStream i { y.stream i with state := (y.stream i).state.losePoint }) (fun _ _ => rfl) fun _ => rfl
  rw [h.lost_eq] at lose
  have event : s.shutEvent g true = s.brokenEvent i g := by rw [State.shutEvent, h.owner]; rfl
  have core (q : Port) : s.coreOf g.die q = true ↔ q = c.port := by
    rw [State.coreOf, h.assigned]
    exact decide_eq_true_iff
  exact lose.told_eq fun q => if_congr (or_congr Iff.rfl (core q)) (by rw [event]) rfl

end State.losable

/-! ### A FAILED result as far as the lost write point (R114 to R116) -/

section
variable {b : Batch} {e : Extent} {more : List Extent} {front behind ks : List Nat} {c : Core}

/-- The batches in the slots ks are withdrawn and the stream is rewound to batch b. -/
def State.rewound (s : State) (b : Batch) (ks : List Nat) : State :=
  (s.withdraw b.stream b.seg.die ks).rewindTo b.stream b

/-- A stream or die with k batches fewer in flight. -/
def Stream.fewer (st : Stream) (k : Nat) : Stream := { st with inFlight := st.inFlight - k }

def Die.fewer (d : Die) (k : Nat) : Die := { d with inFlight := d.inFlight - k }

/-- A state with the slots, queues and records of another, and with k batches of b's stream and die fewer. -/
def State.fewerTo (s : State) (b : Batch) (k : Nat) (t : State) : State :=
  { (s.setStream b.stream ((s.stream b.stream).fewer k)).setDie b.seg.die ((s.die b.seg.die).fewer k) with
    slots := t.slots, queues := t.queues, records := t.records }

/-- The batch to which its stream is rewound begins with the record behind the front of the chain. -/
structure State.rewinds (s : State) (b : Batch) (e : Extent) (more : List Extent) (front behind : List Nat) : Prop where
  extents : b.extents = e :: more
  chain : (s.stream b.stream).chain = front ++ e.record :: behind
  fresh : e.record ∉ front

namespace State.rewinds

theorem eq (h : s.rewinds b e more front behind) (ks : List Nat) : s.rewound b ks = behind.foldl State.unplace
    ((s.withdraw b.stream b.seg.die ks).setRecord e.record { s.record e.record with
      placed := (e.lba - (s.record e.record).lba).toNat }) := by
  have withdrawn := State.withdraw_rest (s := s) (i := b.stream) b.seg.die ks
  have record : (s.withdraw b.stream b.seg.die ks).record e.record = s.record e.record :=
    (congrArg (State.record · e.record) withdrawn).trans rfl
  have stream : ((s.withdraw b.stream b.seg.die ks).stream b.stream).chain = front ++ e.record :: behind := by
    rw [withdrawn]
    exact (congrArg Stream.chain (State.setStream_stream_same ..)).trans h.chain
  rw [State.rewound, State.rewindTo, h.extents]
  refine (State.rewind_split stream h.fresh).trans ?_
  rw [record]

theorem rest (h : s.rewinds b e more front behind) (ks : List Nat) :
    s.rewound b ks = s.fewerTo b ks.length (s.rewound b ks) := by
  have withdrawn := State.withdraw_rest (s := s) (i := b.stream) b.seg.die ks
  have eq := h.eq ks
  have unplaced := State.foldl_unplace_rest (s := (s.withdraw b.stream b.seg.die ks).setRecord e.record
    { s.record e.record with placed := (e.lba - (s.record e.record).lba).toNat }) behind
  rw [← eq] at unplaced
  generalize s.rewound b ks = y at unplaced
  have slots : y.slots = (s.freedSlots ks).slots := by rw [unplaced]; rw [withdrawn]; rfl
  have queues : y.queues = (s.freedSlots ks).queues := by rw [unplaced]; rw [withdrawn]; rfl
  have both := congrArg (fun z : State => { z with records := y.records }) withdrawn
  rw [State.fewerTo, slots, queues]
  exact unplaced.trans both

theorem slots (h : s.rewinds b e more front behind) (ks : List Nat) :
    (s.rewound b ks).slots = (s.freedSlots ks).slots ∧ (s.rewound b ks).queues = (s.freedSlots ks).queues := by
  have withdrawn := State.withdraw_rest (s := s) (i := b.stream) b.seg.die ks
  rw [h.eq, State.foldl_unplace_rest]
  exact ⟨by rw [withdrawn]; rfl, by rw [withdrawn]; rfl⟩

theorem record (h : s.rewinds b e more front behind) (ks : List Nat) (distinct : e.record ∉ behind) (r : Nat) :
    (s.rewound b ks).record r = if r = e.record then { s.record r with placed := (e.lba - (s.record r).lba).toNat }
      else if r ∈ behind then { s.record r with placed := 0 } else s.record r := by
  have withdrawn := State.withdraw_rest (s := s) (i := b.stream) b.seg.die ks
  have record (x : Nat) : (s.withdraw b.stream b.seg.die ks).record x = s.record x :=
    (congrArg (State.record · x) withdrawn).trans rfl
  rw [h.eq, State.foldl_unplace_record, State.setRecord_record, record]
  by_cases hr : r = e.record
  · subst hr
    rw [if_pos rfl, if_pos rfl, if_neg distinct]
  · rw [if_neg hr, if_neg hr]

end State.rewinds

/-- A stream that has lost its write point with k batches in flight. -/
def Stream.failed (st : Stream) (k : Nat) : Stream :=
  { st with state := .idle, writePoint := none, inFlight := st.inFlight - k }

/-- A die on which k batches have ended with an OPEN segment. -/
def Die.failed (d : Die) (k : Nat) : Die := { d with inFlight := d.inFlight - k, openPoints := d.openPoints - 1 }

/-- The write point of b's stream is lost with k batches in flight, and the stream's context is st. -/
def State.lostAs (s : State) (b : Batch) (k : Nat) (st : Stream) (t : State) : State :=
  { ((s.setSegment b.seg ((s.segment b.seg).broken s.geo.units (s.closeSeq + 1))).setDie b.seg.die
      ((s.die b.seg.die).failed k)).setStream b.stream st with
    slots := t.slots, queues := t.queues, records := t.records, closeSeq := s.closeSeq + 1 }

/-- Stream b.stream has lost its write point with k batches in flight; slots, queues and records are those of t. -/
def State.lostTo (s : State) (b : Batch) (k : Nat) (t : State) : State := s.lostAs b k ((s.stream b.stream).failed k) t

theorem State.lostAs_stream (k : Nat) (st : Stream) (t : State) : (s.lostAs b k st t).stream b.stream = st :=
  State.setStream_stream_same ..

theorem State.lostAs_setStream {st : Stream} (k : Nat) (t : State) (v : Stream) (h : st.state ≠ .free) :
    (s.lostAs b k st t).setStream b.stream v = s.lostAs b k v t := by
  have merged := congrArg (fun x : State => ({ x with
    slots := t.slots, queues := t.queues, records := t.records, closeSeq := s.closeSeq + 1 } : State))
    (State.setStream_setStream ((s.setSegment b.seg ((s.segment b.seg).broken s.geo.units (s.closeSeq + 1))).setDie b.seg.die
      ((s.die b.seg.die).failed k)) b.stream v h)
  exact merged

/-- A state with the dies, streams, slots, queues and records given, and with the next close sequence. -/
def State.lostWith (s : State) (dies : Table Die) (streams : Table Stream) (t : State) : State :=
  { s with dies := dies, streams := streams, slots := t.slots, queues := t.queues, records := t.records
           closeSeq := s.closeSeq + 1 }

theorem State.fewerTo_lost (h : s.losable b.stream b.seg c) (k : Nat) (t : State) :
    (s.fewerTo b k t).lost b.stream b.seg = s.lostTo b k t := by
  have dies := congrArg State.dies (State.setDie_setDie s b.seg.die (v := (s.die b.seg.die).fewer k)
    ((s.die b.seg.die).failed k) fun same => by
      have none_ : (s.die b.seg.die).assigned = none := congrArg Die.assigned same
      rw [h.assigned] at none_; cases none_)
  have streams := congrArg State.streams (State.setStream_setStream s b.stream (v := (s.stream b.stream).fewer k)
    ((s.stream b.stream).failed k) (h.active.trans_ne (by decide)))
  have stream : (s.fewerTo b k t).stream b.stream = (s.stream b.stream).fewer k := State.setStream_stream_same ..
  have die : (s.fewerTo b k t).die b.seg.die = (s.die b.seg.die).fewer k := State.setDie_die_same ..
  have both := congrArg₂ (fun x y => (s.setSegment b.seg ((s.segment b.seg).broken s.geo.units (s.closeSeq + 1))).lostWith
    x y t) dies streams
  rw [State.lost, stream, die]
  exact both

theorem State.losable.rewound (h : s.losable b.stream b.seg c) (r : s.rewinds b e more front behind) (ks : List Nat) :
    (s.rewound b ks).losable b.stream b.seg c := by
  have stream : (s.fewerTo b ks.length (s.rewound b ks)).stream b.stream = (s.stream b.stream).fewer ks.length :=
    State.setStream_stream_same ..
  have die : (s.fewerTo b ks.length (s.rewound b ks)).die b.seg.die = (s.die b.seg.die).fewer ks.length :=
    State.setDie_die_same ..
  rw [r.rest]
  refine ⟨h.opened, h.owner, ?_, ?_, ?_, ?_, ?_⟩
  · rw [stream]; exact h.point
  · rw [stream]; exact h.finishing
  · rw [stream]; exact h.active
  · rw [die]; exact h.slots
  · rw [die]; exact h.assigned

/-- R114 to R116: the batches are withdrawn, the chain rewound, and the write point closed short. -/
theorem State.losable.loses (h : s.losable b.stream b.seg c) (r : s.rewinds b e more front behind) (ks : List Nat) :
    s.Does ((s.rewound b ks).loseSegment b.stream b.seg) (s.lostTo b ks.length (s.rewound b ks))
      (fun q => if q = .rp ∨ q = c.port then [s.brokenEvent b.stream b.seg] else []) := by
  have lose := (h.rewound r ks).does
  have eq : (s.rewound b ks).lost b.stream b.seg = s.lostTo b ks.length (s.rewound b ks) := by
    have both := congrArg (State.lost · b.stream b.seg) (r.rest ks)
    exact both.trans (State.fewerTo_lost h _ _)
  have event : (s.rewound b ks).brokenEvent b.stream b.seg = s.brokenEvent b.stream b.seg := by
    rw [r.rest]; rfl
  rw [eq, event] at lose
  exact lose.after (by rw [r.rest]; rfl)

/-! ### The failure count (R117, R118) -/

/-- With no cause of a PENDING seal and no seal timeout a seal is DISARMED (R65). -/
theorem State.sealFor_untimed (calm : s.calm i) (timeout : s.sealTimeout i = 0) : s.sealFor i = .disarmed := by
  cases hc : s.cutRecord i with
  | none => simp only [State.sealFor, hc]
  | some r =>
    have standing := calm.standing r
    simp only [State.sealFor, hc, standing, Bool.false_eq_true, if_false, timeout, if_true]

/-- A stream below the failure limit. -/
def Stream.recovered (st : Stream) (k : Nat) : Stream :=
  { st with state := .idle, writePoint := none, inFlight := st.inFlight - k, failures := st.failures + 1
            sealing := .disarmed }

/-- A stream at the failure limit, with its seal. -/
def Stream.broken (st : Stream) (k : Nat) (sealing : Seal) : Stream :=
  { st with state := .halted, requester := none, writePoint := none, inFlight := st.inFlight - k
            failures := st.failures + 1, sealing := sealing }

/-- One failure more. -/
def State.failedOnce (s : State) (i : Nat) : State :=
  s.setStream i { s.stream i with failures := (s.stream i).failures + 1 }

theorem State.countFailure_below (h : (s.stream i).failures + 1 < s.limits.failureLimit) :
    s.countFailure i = ((s.failedOnce i).setSeal i).test i := by
  unfold State.countFailure
  exact if_pos h

theorem State.countFailure_at (h : s.limits.failureLimit ≤ (s.stream i).failures + 1) :
    s.countFailure i = (s.failedOnce i).halt i := by
  unfold State.countFailure
  exact if_neg (not_lt.mpr h)

/-- A stream that is HALTED, with its seal (R118, R21). -/
def State.haltedAs (s : State) (i : Nat) : State :=
  ((s.leaveSupply i).setStream i { s.stream i with state := .halted, requester := none }).setSeal i

theorem State.halt_does (point : (s.stream i).writePoint = none) (tenant : (s.stream i).cls = .tenant) :
    s.Does (s.halt i) (s.haltedAs i) (fun q => if q = .rp then [] else [.streamHalted i (some (s.stream i).owner)]) := by
  have stays : s.leaveOwnSlotWait i = s := by simp only [State.leaveOwnSlotWait, point]
  have own : (s.haltedAs i).stream i = { s.stream i with
      state := .halted, requester := none
      sealing := ((s.leaveSupply i).setStream i { s.stream i with state := .halted, requester := none }).sealFor i } := by
    refine (State.setStream_stream_same ..).trans ?_
    rw [State.setStream_stream_same]
  have halted : s.halt i = ((s.haltedAs i).emit .fp (.streamHalted i (some (s.stream i).owner))).emitToCores
      (.streamHalted i (some (s.stream i).owner)) := by
    have eq : s.halt i = (s.haltedAs i).emitHalted i := by rw [State.halt, stays]; rfl
    rw [eq, State.emitHalted, own]
    simp only [tenant]
  have ports : (s.haltedAs i).ports = s.ports := rfl
  have told := ((State.Does.of_ports ports).emit .fp (.streamHalted i (some (s.stream i).owner))).emitToCores
    (.streamHalted i (some (s.stream i).owner))
  rw [halted]
  generalize s.haltedAs i = t at told
  exact told.told_eq fun q => by cases q <;> rfl

/-! ### A FAILED result whole (R114 to R119) -/

/-- Everything but the test of the drain. -/
theorem State.fail_eq {w : State} (lose : (s.rewound b (s.flightOf b.stream)).loseSegment b.stream b.seg = w)
    (slots : (w.die b.seg.die).slotWait = []) : s.fail b = (w.countFailure b.stream).drainTest := by
  unfold State.fail
  dsimp only
  rw [← State.rewound, lose, State.slotArbiter_stops (.inl slots)]

/-- The state that the lost write point leaves. -/
theorem State.losable.left (h : s.losable b.stream b.seg c) {w t : State} {k : Nat} {told : Port → List Event}
    (lose : s.Does w (s.lostTo b k t) told) : w.stream b.stream = (s.stream b.stream).failed k ∧
      (w.die b.seg.die).slotWait = [] ∧ w.control = s.control ∧ w.functions = s.functions ∧ w.records = t.records := by
  have rest := lose.rest
  refine ⟨?_, ?_, ?_, ?_, ?_⟩
  · rw [rest]; exact State.lostAs_stream k _ t
  · have die : w.die b.seg.die = (s.die b.seg.die).failed k := by rw [rest]; exact State.setDie_die_same ..
    rw [die]
    exact h.slots
  · rw [rest]; rfl
  · rw [rest]; rfl
  · rw [rest]; rfl

/-- A stream that has failed, of an ENABLED function with no flush and no timeout, has its seal DISARMED. -/
theorem State.failedOnce_seal {w : State} {k : Nat} {st : Stream} (stream : w.stream i = st.failed k) (device : w.device = .run)
    (tenant : st.cls = .tenant) (enabled : (w.function st.owner).state = .enabled)
    (flush : (w.function st.owner).flush = .none) (timeout : (w.function st.owner).timeout = 0) :
    (w.failedOnce i).setSeal i = w.setStream i (st.recovered k) := by
  have own : (w.failedOnce i).stream i = { st.failed k with failures := st.failures + 1 } := by
    rw [State.failedOnce, State.setStream_stream_same, stream]
    rfl
  have calm : (w.failedOnce i).calm i := by
    rw [State.calm, own]
    refine ⟨by simp [Stream.failed], device.trans_ne (by decide), fun _ => ⟨enabled.trans_ne (by decide), flush⟩⟩
  have untimed : (w.failedOnce i).sealTimeout i = 0 := by
    have cls : ((w.failedOnce i).stream i).cls = .tenant := by rw [own]; exact tenant
    have owner : ((w.failedOnce i).stream i).owner = st.owner := by rw [own]; rfl
    simp only [State.sealTimeout, cls, owner]
    exact timeout
  rw [State.setSeal, State.sealFor_untimed calm untimed, own, State.failedOnce]
  have merged := State.setStream_setStream w i (v := { w.stream i with failures := (w.stream i).failures + 1 })
    (st.recovered k) (by rw [stream]; exact nofun)
  exact merged

/-- A FAILED result below the limit: the stream goes on, with nothing due. -/
theorem State.losable.recovers (h : s.losable b.stream b.seg c) (r : s.rewinds b e more front behind)
    (limit : (s.stream b.stream).failures + 1 < s.limits.failureLimit) (device : s.device = .run)
    (tenant : (s.stream b.stream).cls = .tenant)
    (enabled : (s.function (s.stream b.stream).owner).state = .enabled)
    (flush : (s.function (s.stream b.stream).owner).flush = .none)
    (timeout : (s.function (s.stream b.stream).owner).timeout = 0)
    (few : (s.rewound b (s.flightOf b.stream)).uncut b.stream < s.geo.sectors) :
    s.Does (s.fail b) (s.lostAs b (s.flightOf b.stream).length
      ((s.stream b.stream).recovered (s.flightOf b.stream).length) (s.rewound b (s.flightOf b.stream)))
      (fun q => if q = .rp ∨ q = c.port then [s.brokenEvent b.stream b.seg] else []) := by
  have lose := h.loses r (s.flightOf b.stream)
  generalize hw : (s.rewound b (s.flightOf b.stream)).loseSegment b.stream b.seg = w at lose
  generalize hk : (s.flightOf b.stream).length = k at lose
  obtain ⟨stream, slots, control, functions, records⟩ := h.left lose
  have running : w.device = .run := by rw [State.device, control]; exact device
  have function (f : Nat) : w.function f = s.function f := congrArg (Table.read Function.powerOn · f) functions
  have sealed_ := State.failedOnce_seal stream running tenant (by rw [function]; exact enabled)
    (by rw [function]; exact flush) (by rw [function]; exact timeout)
  have own : (w.setStream b.stream ((s.stream b.stream).recovered k)).stream b.stream = (s.stream b.stream).recovered k :=
    State.setStream_stream_same ..
  have uncut : (w.setStream b.stream ((s.stream b.stream).recovered k)).uncut b.stream =
      (s.rewound b (s.flightOf b.stream)).uncut b.stream := by
    refine State.uncut_congr ?_ records
    have fewer : (s.rewound b (s.flightOf b.stream)).stream b.stream =
        (s.stream b.stream).fewer (s.flightOf b.stream).length := by
      rw [r.rest]; exact State.setStream_stream_same ..
    rw [own, fewer]
    rfl
  have idle : (w.setStream b.stream ((s.stream b.stream).recovered k)).cutDue b.stream = false := by
    refine State.cutDue_of_few (.inr ⟨?_, ?_⟩)
    · rw [uncut, State.geo, show (w.setStream b.stream ((s.stream b.stream).recovered k)).control = _ from control]
      exact few
    · rw [own]; exact nofun
  have below : (w.stream b.stream).failures + 1 < w.limits.failureLimit := by
    rw [stream, State.limits, control]; exact limit
  rw [State.fail_eq hw slots, State.countFailure_below below, sealed_, State.test_idle idle,
    State.drainTest_off (s := w.setStream b.stream ((s.stream b.stream).recovered k)) (running.trans_ne (by decide))]
  have does := lose.map (fun x => x.setStream b.stream ((s.stream b.stream).recovered k)) (fun _ _ => rfl) fun _ => rfl
  rw [State.lostTo, State.lostAs_setStream _ _ _ (by exact nofun)] at does
  exact does

/-- The seal of a stream that is HALTED is the one for its final state. -/
theorem State.haltedAs_eq (s : State) (i : Nat) : s.haltedAs i = (s.leaveSupply i).setStream i { s.stream i with
    state := .halted, requester := none, sealing := (s.haltedAs i).sealFor i } := by
  let x := (s.leaveSupply i).setStream i { s.stream i with state := .halted, requester := none }
  have same : (s.haltedAs i).sealFor i = x.sealFor i := State.setStream_sealFor (s := x) (i := i) (x.sealFor i)
  have own : x.stream i = { s.stream i with state := .halted, requester := none } := State.setStream_stream_same ..
  have halted : s.haltedAs i = x.setStream i { x.stream i with sealing := x.sealFor i } := rfl
  rw [same, halted, own]
  exact State.setStream_setStream (s.leaveSupply i) i _ (by exact nofun)

/-- A FAILED result at the limit: the stream halts. -/
theorem State.losable.breaks (h : s.losable b.stream b.seg c) (r : s.rewinds b e more front behind)
    (limit : s.limits.failureLimit ≤ (s.stream b.stream).failures + 1) (device : s.device = .run)
    (tenant : (s.stream b.stream).cls = .tenant) : s.Does (s.fail b) { s.lostAs b (s.flightOf b.stream).length
      ((s.stream b.stream).broken (s.flightOf b.stream).length ((s.fail b).sealFor b.stream))
        (s.rewound b (s.flightOf b.stream)) with waitSupply := s.waitSupply.filter (· ≠ b.stream) }
      (fun q => (if q = .rp ∨ q = c.port then [s.brokenEvent b.stream b.seg] else []) ++
        if q = .rp then [] else [.streamHalted b.stream (some (s.stream b.stream).owner)]) := by
  have lose := h.loses r (s.flightOf b.stream)
  generalize hw : (s.rewound b (s.flightOf b.stream)).loseSegment b.stream b.seg = w at lose
  generalize (s.flightOf b.stream).length = k at lose ⊢
  obtain ⟨stream, slots, control, functions, records⟩ := h.left lose
  have own : (w.failedOnce b.stream).stream b.stream =
      { (s.stream b.stream).failed k with failures := (s.stream b.stream).failures + 1 } := by
    rw [State.failedOnce, State.setStream_stream_same, stream]
    rfl
  have full : w.limits.failureLimit ≤ (w.stream b.stream).failures + 1 := by
    rw [stream, State.limits, control]; exact limit
  have halts := State.halt_does (s := w.failedOnce b.stream) (i := b.stream) (by rw [own]; rfl) (by rw [own]; exact tenant)
  have owner : ((w.failedOnce b.stream).stream b.stream).owner = (s.stream b.stream).owner := by rw [own]; rfl
  rw [owner] at halts
  have eq : s.fail b = (w.failedOnce b.stream).halt b.stream := by
    have running : ((w.failedOnce b.stream).halt b.stream).device = s.device := by
      rw [State.device, halts.rest]
      exact congrArg Control.device control
    rw [State.fail_eq hw slots, State.countFailure_at full, State.drainTest_off (running.trans_ne (device.trans_ne (by decide)))]
  rw [eq]
  have does := lose.bind (fun z => (z.failedOnce b.stream).haltedAs b.stream) (fun _ _ => rfl) (halts.after rfl)
  generalize (w.failedOnce b.stream).halt b.stream = x at does
  let L := s.lostTo b k (s.rewound b (s.flightOf b.stream))
  have once : L.failedOnce b.stream = s.lostAs b k { (s.stream b.stream).failed k with
      failures := (s.stream b.stream).failures + 1 } (s.rewound b (s.flightOf b.stream)) := by
    have stream : L.stream b.stream = (s.stream b.stream).failed k := State.lostAs_stream ..
    rw [State.failedOnce, stream]
    exact State.lostAs_setStream _ _ _ (by exact nofun)
  have halted := State.haltedAs_eq (L.failedOnce b.stream) b.stream
  have seal_ : x.sealFor b.stream = ((L.failedOnce b.stream).haltedAs b.stream).sealFor b.stream :=
    (congrArg (State.sealFor · b.stream) does.rest).trans rfl
  rw [← seal_, once, State.lostAs_stream] at halted
  have merged := congrArg (fun z : State => { z with waitSupply := s.waitSupply.filter (· ≠ b.stream) })
    (State.lostAs_setStream (s := s) (b := b) (st := { (s.stream b.stream).failed k with
      failures := (s.stream b.stream).failures + 1 }) k (s.rewound b (s.flightOf b.stream))
        ((s.stream b.stream).broken k (x.sealFor b.stream)) (by exact nofun))
  have base : (L.failedOnce b.stream).haltedAs b.stream = { s.lostAs b k ((s.stream b.stream).broken k
      (x.sealFor b.stream)) (s.rewound b (s.flightOf b.stream)) with
        waitSupply := s.waitSupply.filter (· ≠ b.stream) } := by
    rw [once]
    exact halted.trans merged
  rw [← base]
  exact does

end

end

end Sys2Proof.Machine
end

section
/-! The settlement of O45 (R114 to R119). -/

namespace Sys2Proof.Machine

section
variable {s : State} {b : Batch} {e : Extent} {more : List Extent} {front behind later : List Nat} {n : Nat} {p : Port}

theorem batchResultFailedAct_eq {slot : Half} {gen : Byte} {deadline : Word} (hw : s.working = true)
    (hn : slot.toNat ≤ 511) (hb : s.heldBatch p slot.toNat gen = some (b, deadline))
    (hu : b.unit = (s.segment b.seg).doneUnits) : batchResultFailedAct p slot gen 1 s =
      ⟨.ok, failedPayload b (s.withdrawnTickets b slot.toNat) (s.fail b), s.fail b⟩ := by
  rw [batchResultFailedAct, State.onResult_held hw hn (by decide) hb, if_pos hu]

/-- The batches of a stream in unit order, with batch n first (R115). -/
structure State.flies (s : State) (i n : Nat) (later : List Nat) : Prop where
  members : ∀ m, (∃ x, (s.slot m).batch = some x ∧ x.stream = i) ↔ m = n ∨ m ∈ later
  ordered : (n :: later).Pairwise fun x y => s.unitOf x < s.unitOf y
  canonical : Table.canonical .powerOn s.slots = true

namespace State.flies
variable {i : Nat}

theorem mem (h : s.flies i n later) (m : Nat) : m ∈ s.flightOf i ↔ m ∈ n :: later := by
  rw [State.mem_flightOf, h.members, List.mem_cons]

theorem distinct (h : s.flies i n later) : (n :: later).Nodup :=
  h.ordered.imp fun less same => absurd less (by rw [same]; exact lt_irrefl _)

theorem perm (h : s.flies i n later) : (s.flightOf i).Perm (n :: later) :=
  (List.perm_ext_iff_of_nodup (State.flightOf_nodup h.canonical i) h.distinct).mpr h.mem

theorem length (h : s.flies i n later) : (s.flightOf i).length = 1 + later.length := by
  rw [h.perm.length_eq, List.length_cons, Nat.add_comm]

theorem inOrder (h : s.flies i n later) : s.flightInOrder i = n :: later :=
  sortBy_eq (State.flightOf_nodup h.canonical i) h.mem h.ordered

theorem tickets (h : s.flies b.stream n later) :
    s.withdrawnTickets b n = later.map fun m => (m, (s.slot m).gen) := by
  have fresh : n ∉ later := (List.nodup_cons.mp h.distinct).1
  have others : (n :: later).filter (· ≠ n) = later := by
    rw [List.filter_cons_of_neg (by simp)]
    exact List.filter_eq_self.mpr fun m hm => decide_eq_true fun same => fresh (by rw [← same]; exact hm)
  rw [State.withdrawnTickets, h.inOrder, others]

/-- The answer (R119). -/
theorem payload (h : s.flies b.stream n later) {t : State} {st : StreamState} {failures : Nat}
    (stream : (t.stream b.stream).state = st) (count : (t.stream b.stream).failures = failures) :
    failedPayload b (s.withdrawnTickets b n) t = segField b.seg ++ two b.unit ++
      (one later.length ++ later.flatMap fun m => two m ++ [(s.slot m).gen]) ++ two failures ++ one st.number := by
  rw [failedPayload, h.tickets, stream, count, listOf, List.length_map, List.flatMap_map]
  rfl

end State.flies

/-- What the rewind leaves uncut (R53). -/
theorem State.rewinds.uncut (r : s.rewinds b e more front behind) (distinct : (s.stream b.stream).chain.Nodup)
    (ks : List Nat) : (s.rewound b ks).uncut b.stream = (front.map fun r => (s.record r).uncut).sum +
      ((s.record e.record).stop - (e.lba - (s.record e.record).lba).toNat) +
      (behind.map fun r => (s.record r).stop).sum := by
  rw [r.chain] at distinct
  obtain ⟨-, tail, apart⟩ := List.nodup_append.mp distinct
  obtain ⟨alone, -⟩ := List.nodup_cons.mp tail
  have fewer : (s.rewound b ks).stream b.stream = (s.stream b.stream).fewer ks.length := by
    rw [r.rest]; exact State.setStream_stream_same ..
  have record := r.record ks alone
  have before : front.map (fun r => ((s.rewound b ks).record r).uncut) = front.map fun r => (s.record r).uncut :=
    List.map_congr_left fun r hr => by
      rw [record, if_neg (apart r hr e.record List.mem_cons_self), if_neg fun h => apart r hr r (List.mem_cons_of_mem _ h) rfl]
  have after_ : behind.map (fun r => ((s.rewound b ks).record r).uncut) = behind.map fun r => (s.record r).stop :=
    List.map_congr_left fun r hr => by
      rw [record, if_neg (fun h => alone (by rw [← h]; exact hr)), if_pos hr]
      exact Nat.sub_zero _
  have own : ((s.rewound b ks).record e.record).uncut =
      (s.record e.record).stop - (e.lba - (s.record e.record).lba).toNat := by
    rw [record, if_pos rfl]
    rfl
  rw [State.uncut, fewer]
  simp only [Stream.fewer, r.chain, List.map_append, List.map_cons, List.sum_append, List.sum_cons, before, after_, own]
  omega

/-- What is left of the state, apart from the ports. -/
theorem State.lostAs_rest {x : State} {qs : Ports} (hx : x = s.withPorts qs) (k : Nat) (st : Stream) (t : State) (ps : Ports) :
    (x.lostAs b k st t).withPorts ps = { ((s.setSegment b.seg ((s.segment b.seg).broken s.geo.units
      (s.closeSeq + 1))).setDie b.seg.die ((s.die b.seg.die).failed k)).setStream b.stream st with
        slots := t.slots, queues := t.queues, records := t.records, closeSeq := s.closeSeq + 1, ports := ps } := by
  subst hx
  rfl

theorem State.lostAs_left {u t : State} {k : Nat} {st : Stream} {told : Port → List Event}
    (h : s.Does u (s.lostAs b k st t) told) : u.stream b.stream = st := by
  have streams : u.streams = (s.lostAs b k st t).streams := by rw [h.rest]
  rw [State.stream, streams]
  exact State.lostAs_stream k st t

/-- A state with its WAIT-SUPPLY list replaced. -/
def State.withWaitSupply (s : State) (l : List Nat) : State := { s with waitSupply := l }

/-- Core c answers FAILED for the batch b it holds in a slot, the oldest of its segment, and b's stream can lose that. -/
structure State.takesFailed (s : State) (p : Port) (slot : Half) (gen : Byte) (c : Core) (b : Batch) : Prop where
  device : s.device = .run
  inRange : slot.toNat ≤ 511
  held : ∃ deadline, s.heldBatch p slot.toNat gen = some (b, deadline)
  unit : b.unit = (s.segment b.seg).doneUnits
  losable : s.losable b.stream b.seg c
  tenant : (s.stream b.stream).cls = .tenant

namespace State.takesFailed
variable {slot : Half} {gen : Byte} {c : Core}

theorem act (h : s.takesFailed p slot gen c b) : batchResultFailedAct p slot gen 1 s =
    ⟨.ok, failedPayload b (s.withdrawnTickets b slot.toNat) (s.fail b), s.fail b⟩ := by
  obtain ⟨deadline, held⟩ := h.held
  have running : s.working = true := by rw [State.working, h.device]; rfl
  exact batchResultFailedAct_eq running h.inRange held h.unit

/-- At the failure limit. -/
theorem halts (h : s.takesFailed p slot gen c b) (flies : s.flies b.stream slot.toNat [])
    (rewinds : s.rewinds b e more front behind) (limit : s.limits.failureLimit ≤ (s.stream b.stream).failures + 1) :
    ∃ u, batchResultFailedAct p slot gen 1 s = ⟨.ok, segField b.seg ++ two b.unit ++ [0] ++
        two ((s.stream b.stream).failures + 1) ++ [5], u⟩ ∧
      s.Does u ((s.lostAs b 1 ((s.stream b.stream).broken 1 (u.sealFor b.stream)) (s.rewound b
        [slot.toNat])).withWaitSupply (s.waitSupply.filter (· ≠ b.stream)))
      (fun q => (if q = .rp ∨ q = c.port then [s.brokenEvent b.stream b.seg] else []) ++
        if q = .rp then [] else [.streamHalted b.stream (some (s.stream b.stream).owner)]) := by
  have does := h.losable.breaks rewinds limit h.device h.tenant
  have own : (s.fail b).stream b.stream =
      (s.stream b.stream).broken (s.flightOf b.stream).length ((s.fail b).sealFor b.stream) :=
    (congrArg (State.stream · b.stream) does.rest).trans (State.lostAs_stream _ _ (s.rewound b (s.flightOf b.stream)))
  have act := h.act
  rw [flies.payload (t := s.fail b) (congrArg Stream.state own) (congrArg Stream.failures own)] at act
  rw [List.perm_singleton.mp flies.perm] at does
  exact ⟨s.fail b, act, does⟩

/-- Below the failure limit. -/
theorem goesOn (h : s.takesFailed p slot gen c b) (flies : s.flies b.stream slot.toNat later)
    (rewinds : s.rewinds b e more front behind) (limit : (s.stream b.stream).failures + 1 < s.limits.failureLimit)
    (enabled : (s.function (s.stream b.stream).owner).state = .enabled)
    (flush : (s.function (s.stream b.stream).owner).flush = .none)
    (timeout : (s.function (s.stream b.stream).owner).timeout = 0)
    (few : (s.rewound b (s.flightOf b.stream)).uncut b.stream < s.geo.sectors) :
    ∃ u, batchResultFailedAct p slot gen 1 s = ⟨.ok, segField b.seg ++ two b.unit ++
        (one later.length ++ later.flatMap fun m => two m ++ [(s.slot m).gen]) ++
        two ((s.stream b.stream).failures + 1) ++ [1], u⟩ ∧
      s.Does u (s.lostAs b (1 + later.length) ((s.stream b.stream).recovered (1 + later.length))
        (s.rewound b (s.flightOf b.stream)))
      (fun q => if q = .rp ∨ q = c.port then [s.brokenEvent b.stream b.seg] else []) := by
  have does := h.losable.recovers rewinds limit h.device h.tenant enabled flush timeout few
  have own : (s.fail b).stream b.stream = (s.stream b.stream).recovered (s.flightOf b.stream).length :=
    State.lostAs_left does
  have act := h.act
  rw [flies.payload (t := s.fail b) (congrArg Stream.state own) (congrArg Stream.failures own)] at act
  rw [flies.length] at does
  exact ⟨s.fail b, act, does⟩

end State.takesFailed

/-- The queues that a FAILED result leaves. -/
theorem State.flies.queues {i : Nat} (h : s.flies i n later) : (s.freedSlots (s.flightOf i)).queues =
    s.queues.keep fun m => decide (m ≠ n) && !later.contains m := by
  rw [State.freedSlots_rest]
  refine Queues.keep_congr fun m => ?_
  have same : (s.flightOf i).contains m = (decide (m = n) || later.contains m) := by
    rw [Bool.eq_iff_iff]
    simp [h.mem]
  simp only [same, Bool.not_or, decide_not]

/-- A state's seal does not depend on its ports. -/
theorem State.sealFor_left {u t base : State} {i : Nat} (hu : u = { base with ports := u.ports })
    (ht : t = { base with ports := t.ports }) : u.sealFor i = t.sealFor i := by
  rw [hu, ht]
  rfl

theorem State.haltedAs_rest {x : State} {qs : Ports} (hx : x = s.withPorts qs) (k : Nat) (st : Stream) (t : State)
    (l : List Nat) (ps : Ports) : ((x.lostAs b k st t).withWaitSupply l).withPorts ps =
    { ((s.setSegment b.seg ((s.segment b.seg).broken s.geo.units (s.closeSeq + 1))).setDie b.seg.die
        ((s.die b.seg.die).failed k)).setStream b.stream st with
      slots := t.slots, queues := t.queues, records := t.records, closeSeq := s.closeSeq + 1, waitSupply := l
      ports := ps } := by
  subst hx
  rfl

end

/-- Settles O45, at the failure limit and below it. -/
theorem failedHaltsTheStream : Obligations.FailedHaltsTheStream := by
  unfold Obligations.FailedHaltsTheStream
  intro v slot gen s c b deadline e hr hd canonical i n k st fr seg die rec' sector closed hn hc hb hgen phase place unit
    opened owner active tenant point finishing slots assigned
  let x := s.setLink v.port .taken
  have takes : x.takesFailed v.port slot gen c b := ⟨hd, hn,
    ⟨deadline, State.heldBatch_eq_some_iff.mpr ⟨hb, hgen, phase, c, hc, place⟩⟩, unit,
    ⟨opened, owner, point, finishing, active, slots, assigned⟩, tenant⟩
  refine ⟨?_, ?_⟩
  · intro alone extents chain limit room
    have rewinds : x.rewinds b e [] [] [] := ⟨extents, chain, List.not_mem_nil⟩
    have flies : x.flies k n [] := ⟨fun m => ⟨fun h => .inl (alone m h),
      fun h => ⟨b, by rw [h.resolve_right List.not_mem_nil]; exact hb, rfl⟩⟩, List.pairwise_singleton _ _, canonical⟩
    obtain ⟨u, act, does⟩ := takes.halts flies rewinds limit
    obtain ⟨t, executed, answered, delivers, rest⟩ := exec_answers hr act does
    refine ⟨t, executed, answered, ?_, delivers.tells_of_roomFor room fun q => ?_⟩
    · have records_eq : (x.rewound b [n]).records = (s.setRecord e.record { rec' with placed := sector }).records := by
        have kept : (x.withdraw b.stream b.seg.die [n]).records = s.records := by rw [State.withdraw_rest]; rfl
        rw [rewinds.eq]
        exact congrArg (fun z => Table.write Fragment.powerOn z e.record { rec' with placed := sector }) kept
      have seal_eq : u.sealFor k = t.sealFor k := State.sealFor_left does.rest rest
      have left := rest.trans (State.haltedAs_rest (State.setLink_eq ..) _ _ _ _ _)
      obtain ⟨slots_eq, queues_eq⟩ := rewinds.slots [n]
      rw [records_eq, slots_eq, queues_eq, seal_eq] at left
      exact left
    · by_cases hq : q = .rp
      · simp [hq]
      · simp only [hq, false_or, if_false]
        split <;> simp
  · intro later more front behind members ordered extents chain distinct limit enabled flush timeout few stays
    obtain ⟨-, tail, apart⟩ := List.nodup_append.mp (by rw [chain] at distinct; exact distinct)
    have alone : e.record ∉ behind := (List.nodup_cons.mp tail).1
    have rewinds : x.rewinds b e more front behind :=
      ⟨extents, chain, fun h => apart e.record h e.record List.mem_cons_self rfl⟩
    have flies : x.flies k n later := ⟨members, ordered, canonical⟩
    obtain ⟨u, act, does⟩ := takes.goesOn flies rewinds limit enabled flush timeout
      (by rw [rewinds.uncut distinct]; exact few)
    obtain ⟨t, executed, answered, delivers, rest⟩ := exec_answers hr act does
    have slots_eq : t.slots = (x.freedSlots (x.flightOf k)).slots := by rw [rest]; exact (rewinds.slots _).1
    have records_eq : t.records = (x.rewound b (x.flightOf k)).records := by rw [rest]; rfl
    refine ⟨t, executed, answered, ?_, fun m => ?_, fun r => ?_, delivers⟩
    · have left := rest.trans (State.lostAs_rest (State.setLink_eq ..) _ _ _ _)
      have slots_left : (x.rewound b (x.flightOf k)).slots = t.slots := by rw [slots_eq, (rewinds.slots _).1]
      rw [(rewinds.slots _).2, flies.queues, ← records_eq, slots_left] at left
      exact left
    · have slot : t.slot m = (x.freedSlots (x.flightOf k)).slot m := congrArg (Table.read Slot.powerOn · m) slots_eq
      rw [slot, State.freedSlots_slot (State.flightOf_nodup (s := x) canonical k)]
      exact if_congr ((flies.mem m).trans List.mem_cons) rfl rfl
    · have record : t.record r = (x.rewound b (x.flightOf k)).record r :=
        congrArg (Table.read Fragment.powerOn · r) records_eq
      rw [record, rewinds.record _ alone]
      split
      · rename_i h
        rw [h]
        rfl
      · rfl

end Sys2Proof.Machine
end

section
/-! The fields of a response as numbers of bytes (R185, Tables 11-1 and 11-8). -/

namespace Sys2Proof.Machine

/-! ### Numbers -/

theorem bytesOf_toNat {w : Nat} (width : Nat) (x : BitVec w) :
    bytesOf width x.toNat = (List.range width).map fun k => x.extractLsb' (8 * k) 8 := by
  refine List.map_congr_left fun k _ => BitVec.eq_of_toNat_eq ?_
  rw [BitVec.toNat_ofNat, BitVec.extractLsb'_toNat, Nat.shiftRight_eq_div_pow, Nat.pow_mul]

theorem bytes16_eq (x : Half) : bytes16 x = bytesOf 2 x.toNat := (bytesOf_toNat 2 x).symm

theorem bytes32_eq (x : Word) : bytes32 x = bytesOf 4 x.toNat := (bytesOf_toNat 4 x).symm

theorem bytes64_eq (x : DieMask) : bytes64 x = bytesOf 8 x.toNat := (bytesOf_toNat 8 x).symm

theorem one_eq (n : Nat) : one n = bytesOf 1 n := by simp [one, bytesOf]

theorem bytesOf_mod (width n : Nat) : bytesOf width (n % 256 ^ width) = bytesOf width n := by
  refine List.map_congr_left fun k hk => BitVec.eq_of_toNat_eq ?_
  obtain ⟨j, rfl⟩ := Nat.exists_eq_add_of_lt (List.mem_range.mp hk)
  have split_ : 256 ^ (k + j + 1) = 256 ^ k * 256 ^ (j + 1) := by rw [Nat.add_assoc, Nat.pow_add]
  have multiple : 2 ^ 8 ∣ 256 ^ (j + 1) := ⟨256 ^ j, by rw [Nat.pow_succ]; omega⟩
  rw [BitVec.toNat_ofNat, BitVec.toNat_ofNat, split_, Nat.mod_mul_right_div_self, Nat.mod_mod_of_dvd _ multiple]

theorem two_eq (n : Nat) : two n = bytesOf 2 n := by
  rw [two, bytes16_eq, BitVec.toNat_ofNat]
  exact bytesOf_mod 2 n

theorem four_eq (n : Nat) : four n = bytesOf 4 n := by
  rw [four, bytes32_eq, BitVec.toNat_ofNat]
  exact bytesOf_mod 4 n

theorem absent_eq (width : Nat) : absent width = bytesOf width (256 ^ width - 1) := by
  have ones (k : Nat) (hk : k ∈ List.range width) : BitVec.ofNat 8 ((256 ^ width - 1) / 256 ^ k) = 0xFF := by
    obtain ⟨j, rfl⟩ := Nat.exists_eq_add_of_lt (List.mem_range.mp hk)
    have split_ : 256 ^ (k + j + 1) = 256 ^ k * (256 ^ j * 256) := by rw [Nat.add_assoc, Nat.pow_add, Nat.pow_succ]
    have some_ : 0 < 256 ^ j := Nat.pow_pos (by decide)
    have all : 0 < 256 ^ k * (256 ^ j * 256) := Nat.mul_pos (Nat.pow_pos (by decide)) (by omega)
    have quotient := Nat.mul_sub_div 0 (256 ^ k) (256 ^ j * 256) all
    rw [Nat.zero_div, Nat.zero_add] at quotient
    refine BitVec.eq_of_toNat_eq ?_
    rw [split_, quotient, BitVec.toNat_ofNat]
    show _ = 255
    omega
  rw [bytesOf, List.map_congr_left ones, List.map_const', List.length_range]
  rfl

/-! ### Fields that stand for one number each -/

theorem yes_eq (b : Bool) : yes b = bytesOf 1 (if b then 1 else 0) := by cases b <;> rfl

theorem flagSet_three (a b c : Bool) : flagSet [a, b, c] = bytesOf 1 (bitsOf [a, b, c]) := by
  cases a <;> cases b <;> cases c <;> rfl

theorem flagSet_five (a b c d e : Bool) : flagSet [a, b, c, d, e] = bytesOf 1 (bitsOf [a, b, c, d, e]) := by
  cases a <;> cases b <;> cases c <;> cases d <;> cases e <;> rfl

/-- A field that may be absent. -/
theorem orAbsent_eq {α : Type} (width : Nat) (f : α → List Byte) (g : α → Nat) (h : ∀ x, f x = bytesOf width (g x))
    (a : Option α) : orAbsent width f a = bytesOf (orOnes width (a.map g)).1 (orOnes width (a.map g)).2 := by
  cases a with
  | none => exact absent_eq width
  | some x => exact h x

/-! ### Fields in order -/

theorem fieldBytes_cons (width n : Nat) (fs : List (Nat × Nat)) : fieldBytes ((width, n) :: fs) = bytesOf width n ++ fieldBytes fs :=
  rfl

theorem fieldBytes_append (fs gs : List (Nat × Nat)) : fieldBytes (fs ++ gs) = fieldBytes fs ++ fieldBytes gs :=
  List.flatMap_append

theorem fieldBytes_nil : fieldBytes [] = [] := rfl

end Sys2Proof.Machine
end

section
/-! NOMINATE (R138 to R140): the settlement of O48. -/

namespace Sys2Proof.Machine

/-! ### The rank (R138) -/

/-- x stands ahead of y in rank: by Z, then score, then age, then die and block. -/
def Nominee.ahead (x y : Nominee) : Prop :=
  (x.zero = true ∧ y.zero = false) ∨ (x.zero = y.zero ∧
    (y.score < x.score ∨ (x.score = y.score ∧ (y.a < x.a ∨ (x.a = y.a ∧
      (x.seg.die < y.seg.die ∨ (x.seg.die = y.seg.die ∧ x.seg.block < y.seg.block)))))))

namespace Nominee
variable {x y z : Nominee}

theorem before_iff : x.before y = true ↔ x.ahead y := by
  unfold before ahead
  by_cases zero : x.zero = y.zero
  · have same : ¬ (x.zero = true ∧ y.zero = false) := fun h => by rw [h.1, h.2] at zero; cases zero
    simp only [zero, ne_eq, not_true_eq_false, if_false, true_and]
    by_cases score : x.score = y.score
    · by_cases age : x.a = y.a
      · by_cases die : x.seg.die = y.seg.die
        · simp [score, age, die]
        · simp [score, age, die]
      · simp [score, age]
    · simp [score]
  · cases hx : x.zero <;> cases hy : y.zero <;> simp_all

theorem ahead_trans (h : x.ahead y) (h' : y.ahead z) : x.ahead z := by
  rcases h with ⟨hx, hy⟩ | ⟨zero, rest⟩ <;> rcases h' with ⟨hy', hz⟩ | ⟨zero', rest'⟩
  · rw [hy] at hy'; cases hy'
  · exact .inl ⟨hx, zero' ▸ hy⟩
  · exact .inl ⟨zero ▸ hy', hz⟩
  · refine .inr ⟨zero.trans zero', ?_⟩
    omega

/-- Of two nominees of different segments one stands ahead. -/
theorem ahead_or (h : x.seg ≠ y.seg) : x.ahead y ∨ y.ahead x := by
  have apart : x.seg.die ≠ y.seg.die ∨ x.seg.block ≠ y.seg.block := by
    by_contra same
    obtain ⟨die, block⟩ := not_or.mp same
    exact h (Seg.mk.injEq .. ▸ ⟨not_not.mp die, not_not.mp block⟩ : (⟨x.seg.die, x.seg.block⟩ : Seg) = ⟨y.seg.die, y.seg.block⟩)
  unfold ahead
  cases hx : x.zero <;> cases hy : y.zero
  · simp only [reduceCtorEq, false_and, false_or, true_and]; omega
  · exact .inr (.inl ⟨rfl, rfl⟩)
  · exact .inl (.inl ⟨rfl, rfl⟩)
  · simp only [reduceCtorEq, and_false, false_or, true_and]; omega

theorem insert_perm (x : Nominee) (l : List Nominee) : (x.insert l).Perm (x :: l) := by
  induction l with
  | nil => exact .refl _
  | cons y l ih =>
    rw [insert]
    split
    · exact .refl _
    · exact (ih.cons y).trans (.swap x y l)

theorem insert_ranked {l : List Nominee} (ranked : l.Pairwise ahead) (fresh : ∀ y ∈ l, x.seg ≠ y.seg) :
    (x.insert l).Pairwise ahead := by
  induction l with
  | nil => exact List.pairwise_singleton _ _
  | cons y l ih =>
    obtain ⟨first, rest⟩ := List.pairwise_cons.mp ranked
    rw [insert]
    split
    · rename_i before
      have lead := before_iff.mp before
      refine List.pairwise_cons.mpr ⟨fun z hz => ?_, ranked⟩
      rcases List.mem_cons.mp hz with rfl | hz
      · exact lead
      · exact ahead_trans lead (first z hz)
    · rename_i after
      have lead := (ahead_or (fresh y List.mem_cons_self)).resolve_left fun h => after (before_iff.mpr h)
      refine List.pairwise_cons.mpr ⟨fun z hz => ?_, ih rest fun z hz => fresh z (List.mem_cons_of_mem y hz)⟩
      rcases List.mem_cons.mp ((insert_perm x l).mem_iff.mp hz) with rfl | hz
      · exact lead
      · exact first z hz

end Nominee

theorem rank_perm (l : List Nominee) : (rank l).Perm l := by
  induction l with
  | nil => exact .refl _
  | cons x l ih => exact (x.insert_perm _).trans (ih.cons x)

/-- Nominees of different segments are ranked. -/
theorem rank_ranked {l : List Nominee} (distinct : l.Pairwise fun x y => x.seg ≠ y.seg) : (rank l).Pairwise Nominee.ahead := by
  induction l with
  | nil => exact .nil
  | cons x l ih =>
    obtain ⟨fresh, distinct⟩ := List.pairwise_cons.mp distinct
    exact Nominee.insert_ranked (ih distinct) fun y hy => fresh y ((rank_perm l).mem_iff.mp hy)

/-! ### The candidates (R140) -/

section
variable {s : State} {scope : Option Nat} {pol : Policy} {cls : Option SegmentClass}

theorem State.segOfIndex_segIndex {g : Seg} (h : g.block < s.geo.blocks) : s.segOfIndex (s.segIndex g) = g := by
  have some_ : 0 < s.geo.blocks := by omega
  have die : (g.die * s.geo.blocks + g.block) / s.geo.blocks = g.die := by
    rw [Nat.mul_comm, Nat.mul_add_div some_, Nat.div_eq_of_lt h, Nat.add_zero]
  have block : (g.die * s.geo.blocks + g.block) % s.geo.blocks = g.block := by
    rw [Nat.mul_comm, Nat.mul_add_mod, Nat.mod_eq_of_lt h]
  simp only [State.segOfIndex, State.segIndex, die, block]

theorem State.segIndex_segOfIndex (k : Nat) : s.segIndex (s.segOfIndex k) = k := Nat.div_add_mod' k s.geo.blocks

theorem State.mem_ranking (blocks : 1 ≤ s.geo.blocks) (x : Nominee) : x ∈ s.ranking scope pol cls ↔
    ∃ g, (g.block < s.geo.blocks ∧ s.candidate scope cls g = true) ∧ x = s.nominee pol g := by
  rw [State.ranking, (rank_perm _).mem_iff, List.mem_map]
  constructor
  · rintro ⟨g, hg, rfl⟩
    obtain ⟨listed, candidate⟩ := List.mem_filter.mp hg
    obtain ⟨k, -, rfl⟩ := List.mem_map.mp listed
    exact ⟨_, ⟨Nat.mod_lt _ blocks, candidate⟩, rfl⟩
  · rintro ⟨g, ⟨inRange, candidate⟩, rfl⟩
    refine ⟨g, List.mem_filter.mpr ⟨List.mem_map.mpr ⟨s.segIndex g, ?_, State.segOfIndex_segIndex inRange⟩, candidate⟩, rfl⟩
    refine Table.mem_indices .powerOn _ _ fun same => ?_
    have state : (s.segment g).state = .untracked := congrArg Segment.state same
    simp [State.candidate, state] at candidate

theorem State.ranking_ranked (canonical : Table.canonical .powerOn s.segments = true) :
    (s.ranking scope pol cls).Pairwise Nominee.ahead := by
  refine rank_ranked (List.pairwise_map.mpr (List.Pairwise.filter _ (List.pairwise_map.mpr ?_)))
  refine (Table.indices_pairwise Segment.powerOn s.segments 0 canonical).2.imp fun {a b} less same => ?_
  have index : a = b := by rw [← s.segIndex_segOfIndex a, ← s.segIndex_segOfIndex b]; exact congrArg s.segIndex same
  omega

/-! ### The chosen segments (R140) -/

theorem State.setLink_of_ports {t : State} (h : t.ports = s.ports) (p : Port) (l : Link) :
    t.setLink p l = t.withPorts (s.setLink p l).ports := by
  simp only [State.setLink, State.setPort, State.port, h, State.withPorts]

theorem State.foldl_makeVictim_rest (l : List Nominee) : l.foldl State.makeVictim s = { s with
    segments := (l.foldl State.makeVictim s).segments } := by
  induction l generalizing s with
  | nil => rfl
  | cons x l ih => exact ih (s := s.makeVictim x)

theorem State.foldl_makeVictim_withPorts (l : List Nominee) (ps : Ports) :
    l.foldl State.makeVictim (s.withPorts ps) = (l.foldl State.makeVictim s).withPorts ps := by
  induction l generalizing s with
  | nil => rfl
  | cons x l ih => exact ih (s := s.makeVictim x)

theorem State.foldl_makeVictim_segment (l : List Nominee) {g : Seg} (hg : g.block < s.geo.blocks)
    (hl : ∀ x ∈ l, x.seg.block < s.geo.blocks) : (l.foldl State.makeVictim s).segment g =
      if ∃ x ∈ l, x.seg = g then { s.segment g with state := .victim } else s.segment g := by
  induction l generalizing s with
  | nil => simp
  | cons x l ih =>
    have other (h : g ≠ x.seg) : (s.makeVictim x).segment g = s.segment g := by
      rw [State.makeVictim, State.setSegment_segment, if_neg fun same => h ?_]
      rw [← State.segOfIndex_segIndex hg, same, State.segOfIndex_segIndex (hl x List.mem_cons_self)]
    rw [List.foldl_cons, ih (s := s.makeVictim x) hg fun y hy => hl y (List.mem_cons_of_mem _ hy)]
    by_cases hx : g = x.seg
    · subst hx
      have own : (s.makeVictim x).segment x.seg = { s.segment x.seg with state := .victim } :=
        State.setSegment_segment_same ..
      rw [own]
      simp
    · rw [other hx]
      simp [Ne.symm hx]

/-! ### The request (R139, R140) -/

theorem policyOf_none {b : Byte} (h : 1 < b.toNat) : policyOf b = none := by
  rw [policyOf, if_neg (by rintro rfl; exact absurd h (by decide)), if_neg (by rintro rfl; exact absurd h (by decide))]

theorem classFilterOf_none {b : Byte} (h : 3 < b.toNat) : classFilterOf b = none := by
  rw [classFilterOf, segmentClassOf, if_neg (by rintro rfl; exact absurd h (by decide)),
    if_neg (by rintro rfl; exact absurd h (by decide)), if_neg (by rintro rfl; exact absurd h (by decide)),
    if_neg (by rintro rfl; exact absurd h (by decide))]
  rfl

theorem scopeOf_all : scopeOf 0xFF = none := rfl

theorem scopeOf_named {scope : Byte} (h : scope ≠ 0xFF) : scopeOf scope = some scope.toNat := if_neg h

theorem State.badScope_iff (scope : Byte) : s.badScope (scopeOf scope) = true ↔ scope ≠ 0xFF ∧ s.geo.dies ≤ scope.toNat := by
  by_cases all : scope = 0xFF
  · rw [all, scopeOf_all]
    exact ⟨nofun, fun h => absurd rfl h.1⟩
  · rw [scopeOf_named all, State.badScope, decide_eq_true_eq]
    exact ⟨fun h => ⟨all, h⟩, fun h => h.2⟩

theorem nominateAct_range {scope policy filter count : Byte} (hd : s.device = .run)
    (h : 1 < policy.toNat ∨ 3 < filter.toNat ∨ count.toNat < 1 ∨ 8 < count.toNat ∨
      (scope ≠ 0xFF ∧ s.geo.dies ≤ scope.toNat)) : nominateAct scope policy filter count s = s.refuse .range := by
  refine (State.whileRun_pass _ hd).trans ?_
  cases hp : policyOf policy with
  | none => rfl
  | some pol =>
    cases hf : classFilterOf filter with
    | none => rfl
    | some cls =>
      refine if_pos ?_
      have known : ¬ 1 < policy.toNat := fun bad => by rw [policyOf_none bad] at hp; cases hp
      have listed : ¬ 3 < filter.toNat := fun bad => by rw [classFilterOf_none bad] at hf; cases hf
      rw [Bool.or_eq_true, Bool.or_eq_true, decide_eq_true_eq, decide_eq_true_eq, State.badScope_iff, or_assoc]
      exact (h.resolve_left known).resolve_left listed

theorem nominateAct_chosen {scope policy filter count : Byte} (hd : s.device = .run) (hp : policyOf policy = some pol)
    (hf : classFilterOf filter = some cls) (low : 1 ≤ count.toNat) (high : count.toNat ≤ 8)
    (inScope : scope = 0xFF ∨ scope.toNat < s.geo.dies) : nominateAct scope policy filter count s =
      ⟨.ok, listOf Nominee.bytes ((s.ranking (scopeOf scope) pol cls).take count.toNat),
        ((s.ranking (scopeOf scope) pol cls).take count.toNat).foldl State.makeVictim s⟩ := by
  refine (State.whileRun_pass _ hd).trans ?_
  rw [hp, hf]
  refine if_neg ?_
  rw [Bool.or_eq_true, Bool.or_eq_true, decide_eq_true_eq, decide_eq_true_eq, State.badScope_iff]
  rintro ((none_ | many) | ⟨named, outside⟩)
  · omega
  · omega
  · rcases inScope with all | inside
    · exact named all
    · omega

/-- The entry of a nominee in the response (section 11.3). -/
theorem Nominee.bytes_eq (n : Nominee) : n.bytes = fieldBytes [(1, n.seg.die), (2, n.seg.block), (2, n.score), (2, n.u),
    (2, n.v), (2, n.a), (1, bitsOf [n.zero, n.clamped, n.old, n.suspect, n.failed])] := by
  simp only [Nominee.bytes, segField, one_eq, two_eq, flagSet_five, fieldBytes_cons, fieldBytes_nil, List.append_assoc,
    List.append_nil]

theorem State.candidate_iff (scope : Byte) (g : Seg) : s.candidate (scopeOf scope) cls g = true ↔
    (s.segment g).state = .closed ∧ (scope = 0xFF ∨ g.die = scope.toNat) ∧ (cls = none ∨ cls = some (s.segment g).cls) := by
  have named : (scopeOf scope = none ∨ scopeOf scope = some g.die) ↔ (scope = 0xFF ∨ g.die = scope.toNat) := by
    by_cases all : scope = 0xFF
    · exact iff_of_true (.inl (by rw [all, scopeOf_all])) (.inl all)
    · rw [scopeOf_named all, Option.some.injEq, eq_comm (a := scope.toNat)]
      exact ⟨fun h => .inr (h.resolve_left nofun), fun h => .inr (h.resolve_left all)⟩
  simp only [State.candidate, Bool.and_eq_true, Bool.or_eq_true, decide_eq_true_eq, and_assoc, named]

end

/-- Settles O48, by the ranking: its members are the candidates' nominees, and each stands ahead of all behind it. -/
theorem nominateTakesTheFirstInRank : Obligations.NominateTakesTheFirstInRank := by
  unfold Obligations.NominateTakesTheFirstInRank
  intro v scope policy filter count s hr hd i
  refine ⟨fun h => exec_refused hr (nominateAct_range (s := s.setLink v.port .taken) hd h), ?_⟩
  intro pol cls hp hf low high inScope canonical blocks candidate ahead figures
  let x := s.setLink v.port .taken
  let ranking := s.ranking (scopeOf scope) pol cls
  let chosen := ranking.take count.toNat
  have act : requestAct i x = ⟨.ok, listOf Nominee.bytes chosen, chosen.foldl State.makeVictim x⟩ :=
    nominateAct_chosen (s := x) hd hp hf low high inScope
  have members (n : Nominee) : n ∈ ranking ↔ ∃ g, candidate g ∧ n = s.nominee pol g := by
    rw [State.mem_ranking blocks]
    simp only [State.candidate_iff]
    rfl
  have ranked : ranking.Pairwise ahead := State.ranking_ranked canonical
  have rest := State.foldl_makeVictim_rest (s := s) chosen
  refine ⟨chosen, chosen.foldl State.makeVictim s, ?_, rest, ?_, ranked.sublist (List.take_sublist _ _), ?_, ?_, ?_⟩
  · have payload : listOf Nominee.bytes chosen = one chosen.length ++ chosen.flatMap fun n => fieldBytes
        [(1, n.seg.die), (2, n.seg.block), (2, n.score), (2, n.u), (2, n.v), (2, n.a),
          (1, bitsOf [n.zero, n.clamped, n.old, n.suspect, n.failed])] := by
      rw [listOf, funext Nominee.bytes_eq]
    have linked : chosen.foldl State.makeVictim x = (chosen.foldl State.makeVictim s).setLink v.port .taken := by
      have ports : (chosen.foldl State.makeVictim s).ports = s.ports := by rw [rest]
      have same : (chosen.foldl State.makeVictim s).setLink v.port .taken =
          (chosen.foldl State.makeVictim s).withPorts x.ports := State.setLink_of_ports ports v.port .taken
      rw [same]
      exact State.foldl_makeVictim_withPorts (s := s) chosen x.ports
    rw [payload, linked] at act
    exact exec_quiet hr act (by rw [rest]) (by rw [rest])
  · exact List.length_take_le _ _
  · intro n hn
    obtain ⟨g, hg, rfl⟩ := (members n).mp (List.mem_of_mem_take hn)
    refine ⟨hg, rfl, rfl, rfl, rfl, rfl, rfl, rfl, rfl, rfl, ?_⟩
    cases pol <;> rfl
  · intro g hg other
    have listed : s.nominee pol g ∈ chosen ++ ranking.drop count.toNat := by
      rw [List.take_append_drop]
      exact (members _).mpr ⟨g, hg, rfl⟩
    have left : s.nominee pol g ∈ ranking.drop count.toNat :=
      (List.mem_append.mp listed).resolve_left fun h => other _ h rfl
    have more : count.toNat < ranking.length := by
      have some_ := List.length_pos_of_mem left
      rw [List.length_drop] at some_
      omega
    have ordered : (chosen ++ ranking.drop count.toNat).Pairwise ahead := by rw [List.take_append_drop]; exact ranked
    exact ⟨List.length_take_of_le more.le, fun n hn => (List.pairwise_append.mp ordered).2.2 n hn _ left⟩
  · intro g hg
    exact State.foldl_makeVictim_segment chosen hg fun n hn => by
      obtain ⟨h, hh, rfl⟩ := (members n).mp (List.mem_of_mem_take hn)
      exact hh.1

end Sys2Proof.Machine
end

section
/-! The reports of the queries (R22, R45, R93, R94, R184): the settlement of O55. -/

namespace Sys2Proof.Machine

/-! ### Fields of a report -/

theorem one_field (n : Nat) : one n = fieldBytes [(1, n)] := by rw [one_eq]; exact (List.append_nil _).symm

theorem two_field (n : Nat) : two n = fieldBytes [(2, n)] := by rw [two_eq]; exact (List.append_nil _).symm

theorem four_field (n : Nat) : four n = fieldBytes [(4, n)] := by rw [four_eq]; exact (List.append_nil _).symm

theorem bytes32_field (x : Word) : bytes32 x = fieldBytes [(4, x.toNat)] := by rw [bytes32_eq]; exact (List.append_nil _).symm

theorem bytes64_field (x : DieMask) : bytes64 x = fieldBytes [(8, x.toNat)] := by
  rw [bytes64_eq]; exact (List.append_nil _).symm

theorem yes_field (b : Bool) : yes b = fieldBytes [(1, if b then 1 else 0)] := by
  rw [yes_eq]; exact (List.append_nil _).symm

theorem flagSet_field (a b c : Bool) : flagSet [a, b, c] = fieldBytes [(1, bitsOf [a, b, c])] := by
  rw [flagSet_three]; exact (List.append_nil _).symm

theorem absent_field (width : Nat) : absent width = fieldBytes [orOnes width none] := by
  rw [absent_eq]; exact (List.append_nil _).symm

theorem absent_append (a b : Nat) : absent (a + b) = absent a ++ absent b := List.replicate_add ..

/-- A field that may be absent, of one number. -/
theorem orAbsent_field {α : Type} {width : Nat} {f : α → List Byte} {g : α → Nat} (h : ∀ x, f x = bytesOf width (g x))
    (a : Option α) : orAbsent width f a = fieldBytes [orOnes width (a.map g)] := by
  rw [orAbsent_eq width f g h]; exact (List.append_nil _).symm

theorem portField_field (p : Option Port) :
    portField p = fieldBytes [orOnes 1 (p.map [Port.fp, .mp0, .mp1, .rp].idxOf)] :=
  orAbsent_field (fun q => (one_eq _).trans (congrArg (bytesOf 1) (by cases q <;> rfl))) p

theorem coreField_field (c : Option Core) : coreField c = fieldBytes [orOnes 1 (c.map [Core.core0, .core1].idxOf)] :=
  orAbsent_field (fun k => (one_eq _).trans (congrArg (bytesOf 1) (by cases k <;> rfl))) c

theorem two_orAbsent (a : Option Nat) : orAbsent 2 two a = fieldBytes [orOnes 2 a] := by
  rw [orAbsent_field (g := id) two_eq, Option.map_id]; rfl

theorem segOrAbsent_field (a : Option Seg) :
    segOrAbsent a = fieldBytes [orOnes 1 (a.map Seg.die), orOnes 2 (a.map Seg.block)] := by
  cases a with
  | none => exact (absent_append 1 2).trans (by rw [absent_field, absent_field]; rfl)
  | some g => exact (congrArg₂ (· ++ ·) (one_field g.die) (two_field g.block))

/-- The fields of a wait state (log entry 10). -/
def Wait.fields : Wait → List (Nat × Nat)
  | .none => [(1, 0), orOnes 1 Option.none]
  | .budget k => [(1, 1), (1, k)]
  | .records k => [(1, 2), (1, k)]

theorem waitField_field (w : Wait) : waitField w = fieldBytes w.fields := by
  cases w with
  | none => exact congrArg₂ (· ++ ·) (one_field 0) (absent_field 1)
  | budget k => exact congrArg₂ (· ++ ·) (one_field 1) (one_field k)
  | records k => exact congrArg₂ (· ++ ·) (one_field 2) (one_field k)

/-- The fields of a flush state (log entry 10). -/
def Flush.fields : Flush → List (Nat × Nat)
  | .none => [(1, 0), orOnes 4 Option.none, orOnes 4 Option.none]
  | .pending serial tag => [(1, 1), (4, serial.toNat), (4, tag.toNat)]
  | .complete serial tag => [(1, 2), (4, serial.toNat), (4, tag.toNat)]

theorem flushField_field (f : Flush) : flushField f = fieldBytes f.fields := by
  cases f with
  | none =>
    rw [flushField, absent_append 4 4, absent_field, one_field]
    rfl
  | pending serial tag => simp only [flushField, one_field, bytes32_field]; rfl
  | complete serial tag => simp only [flushField, one_field, bytes32_field]; rfl

theorem fenceField_field (f : Option (FenceMode × Port)) : fenceField f = fieldBytes
    [orOnes 1 (f.map fun c => [FenceMode.discard, .drain].idxOf c.1),
      orOnes 1 ((f.map Prod.snd).map [Port.fp, .mp0, .mp1, .rp].idxOf)] := by
  cases f with
  | none => exact (absent_append 1 1).trans (by rw [absent_field]; rfl)
  | some c =>
    obtain ⟨m, p⟩ := c
    simp only [fenceField, one_field]
    cases m <;> cases p <;> rfl

/-- The number of a seal state and its deadline. -/
def Seal.fields : Seal → Nat × Nat
  | .disarmed => (0, 0)
  | .armed deadline => (1, deadline.toNat)
  | .pending => (2, 0)

theorem sealField_field (x : Seal) : sealField x = fieldBytes [(1, x.fields.1), (4, x.fields.2)] := by
  cases x with
  | disarmed => exact congrArg₂ (· ++ ·) (one_field 0) (four_field 0)
  | armed deadline => exact congrArg₂ (· ++ ·) (one_field 1) (bytes32_field deadline)
  | pending => exact congrArg₂ (· ++ ·) (one_field 2) (four_field 0)

theorem geometryField_field (a : Option Geometry) : geometryField a = fieldBytes [orOnes 1 (a.map Geometry.dies),
    orOnes 2 (a.map Geometry.blocks), orOnes 2 (a.map Geometry.units), orOnes 1 (a.map Geometry.sectors)] := by
  cases a with
  | none =>
    have six : absent 6 = absent 1 ++ absent 2 ++ absent 2 ++ absent 1 := rfl
    rw [geometryField, orAbsent, six, absent_field, absent_field]
    rfl
  | some g =>
    simp only [geometryField, orAbsent, one_field, two_field]
    rfl

theorem limitsField_field (l : Limits) : limitsField l = fieldBytes [(2, l.holdUp), (2, l.reclaimHeld), (2, l.reclaimRecords),
    (2, l.dieInFlight), (2, l.reclaimTimeout), (2, l.highWater), (2, l.batchDeadline),
    (1, [OverdueMode.report, .takeover].idxOf l.overdue), (2, l.failureLimit), (2, l.lowWater)] := by
  have mode : l.overdue.number = [OverdueMode.report, .takeover].idxOf l.overdue := by cases l.overdue <;> rfl
  simp only [limitsField, one_field, two_field, mode]
  rfl

/-! ### Numbers of enumerated values (Tables 11-1 and 11-8) -/

theorem StreamState.number_eq (x : StreamState) :
    x.number = [StreamState.free, .idle, .active, .waitSupply, .draining, .halted].idxOf x := by cases x <;> rfl

theorem StreamClass.number_eq (x : StreamClass) : x.number = [StreamClass.tenant, .reclaim].idxOf x := by cases x <;> rfl

theorem Intake.number_eq (x : Intake) : x.number = [Intake.accept, .hold].idxOf x := by cases x <;> rfl

theorem FunctionState.number_eq (x : FunctionState) :
    x.number = [FunctionState.disabled, .enabled, .fenced].idxOf x := by cases x <;> rfl

theorem SegmentState.number_eq (x : SegmentState) :
    x.number = [SegmentState.untracked, .free, .opened, .filled, .closed, .victim, .retired].idxOf x := by cases x <;> rfl

theorem SegmentClass.number_eq (x : SegmentClass) :
    x.number = [SegmentClass.tenant, .reclaim, .unknown].idxOf x := by cases x <;> rfl

theorem DeviceState.number_eq (x : DeviceState) :
    x.number = [DeviceState.config, .run, .drain, .drained].idxOf x := by cases x <;> rfl

theorem CoreState.number_eq (x : CoreState) : x.number = [CoreState.active, .failed].idxOf x := by cases x <;> rfl

/-! ### The reports -/

theorem classFields_field (st : Stream) : classFields st = fieldBytes
    [orOnes 1 (if decide (st.state ≠ .free) then some ([StreamClass.tenant, .reclaim].idxOf st.cls) else none),
      orOnes 2 (if decide (st.state ≠ .free) && st.cls = .tenant then some st.owner else none)] := by
  by_cases free : st.state = .free
  · rw [classFields, if_pos free, absent_append 1 2, absent_field, absent_field, ← fieldBytes_append]
    simp [free]
  · cases cls : st.cls with
    | tenant =>
      simp only [classFields, free, cls, if_false, if_true, one_field, two_field, ← fieldBytes_append, ne_eq,
        not_false_eq_true, decide_true, Bool.and_self]
      rfl
    | reclaim =>
      simp only [classFields, free, cls, if_false, one_field, absent_field, ← fieldBytes_append, ne_eq, not_false_eq_true,
        decide_true, reduceCtorEq, decide_false, Bool.and_false, if_true]
      rfl

theorem headTag_field (s : State) (a : Option Nat) : orAbsent 4 (fun r => fieldBytes [(4, (s.record r).tag.toNat)]) a =
    fieldBytes [orOnes 4 (a.map fun r => (s.record r).tag.toNat)] := orAbsent_field (fun _ => List.append_nil _) a

theorem State.cutOffset_eq (s : State) (n : Nat) : s.cutOffset n = (((s.stream n).chain.find? fun r =>
    (s.record r).placed < (s.record r).stop).map fun r => (s.record r).placed).getD 0 := by
  rw [State.cutOffset, State.cutRecord]
  cases (s.stream n).chain.find? fun r => (s.record r).placed < (s.record r).stop <;> rfl

theorem State.streamReport_eq (s : State) (n : Nat) : s.streamReport n = fieldBytes ([
      (1, [StreamState.free, .idle, .active, .waitSupply, .draining, .halted].idxOf (s.stream n).state),
      orOnes 1 (if decide ((s.stream n).state ≠ .free) then some ([StreamClass.tenant, .reclaim].idxOf (s.stream n).cls)
        else none),
      orOnes 2 (if decide ((s.stream n).state ≠ .free) && (s.stream n).cls = .tenant then some (s.stream n).owner else none),
      (1, [Intake.accept, .hold].idxOf (s.stream n).intake), (8, (s.stream n).mask.toNat), (1, (s.stream n).depth),
      orOnes 1 ((s.stream n).requester.map [Port.fp, .mp0, .mp1, .rp].idxOf),
      (1, if s.waitSupply.contains n then 1 else 0)] ++
      [orOnes 1 ((s.stream n).writePoint.map Seg.die), orOnes 2 ((s.stream n).writePoint.map Seg.block)] ++
      [orOnes 1 ((s.stream n).finishing.map Seg.die), orOnes 2 ((s.stream n).finishing.map Seg.block)] ++
    [(2, (s.stream n).inFlight), (1, (s.stream n).sealing.fields.1), (4, (s.stream n).sealing.fields.2), (2, (s.stream n).failures), (4, (s.stream n).padTotal),
      (4, (s.stream n).batchesDone.toNat), (2, (s.stream n).boundHints), (2, (s.stream n).chain.length), (2, s.uncut n),
      orOnes 4 ((s.stream n).chain.head?.map fun r => (s.record r).tag.toNat),
      (2, (((s.stream n).chain.find? fun r => (s.record r).placed < (s.record r).stop).map fun r =>
        (s.record r).placed).getD 0)]) := by
  simp only [State.streamReport, classFields_field, one_field, two_field, four_field, bytes32_field, bytes64_field, yes_field,
    portField_field, segOrAbsent_field, sealField_field, headTag_field, StreamState.number_eq, Intake.number_eq,
    State.cutOffset_eq, State.supplyWait, ← fieldBytes_append, List.cons_append, List.nil_append]

theorem State.headroom_eq (s : State) (f : Nat) : s.headroom f =
    min (((s.function f).cap : Int) - (s.function f).held) ((s.limits.holdUp : Int) - s.budget.total - s.budget.unused +
      max 0 (((s.function f).reserve : Int) - (s.function f).held)) := by
  have spare : (((s.function f).spare : Nat) : Int) = max 0 (((s.function f).reserve : Int) - (s.function f).held) := by
    rw [Function.spare]; omega
  rw [State.headroom, ← spare]

theorem State.budgetReport_field (s : State) : s.budgetReport = fieldBytes [(2, s.limits.holdUp), (2, s.limits.highWater),
    (2, s.budget.total), (2, s.budget.unused), (2, s.tenantInUse)] := by
  simp only [State.budgetReport, two_field, ← fieldBytes_append, List.cons_append, List.nil_append]

theorem State.functionReport_eq (s : State) (n : Nat) : s.functionReport n = fieldBytes ([
      (1, [FunctionState.disabled, .enabled, .fenced].idxOf (s.function n).state), (2, (s.function n).reserve),
      (2, (s.function n).cap), (2, (s.function n).timeout), (2, (s.function n).held), (4, (s.function n).serial.toNat),
      (2, (s.function n).outstanding), (2, (s.function n).openStreams)] ++ (s.function n).wait.fields ++
      (s.function n).flush.fields ++
    [orOnes 1 ((s.function n).fence.map fun c => [FenceMode.discard, .drain].idxOf c.1),
      orOnes 1 (((s.function n).fence.map Prod.snd).map [Port.fp, .mp0, .mp1, .rp].idxOf),
      (2, (s.function n).violations), (2, (max 0 (s.headroom n)).toNat)] ++
    [(2, s.limits.holdUp), (2, s.limits.highWater), (2, s.budget.total), (2, s.budget.unused), (2, s.tenantInUse)]) := by
  have positive : (s.headroom n).toNat = (max 0 (s.headroom n)).toNat := by omega
  simp only [State.functionReport, one_field, two_field, bytes32_field, waitField_field, flushField_field, fenceField_field,
    FunctionState.number_eq, positive, State.budgetReport_field, ← fieldBytes_append, List.append_assoc, List.cons_append,
    List.nil_append]

theorem State.reclaimReport_eq (s : State) : s.reclaimReport = fieldBytes ([(2, s.budget.reclaimHeld),
      (2, s.limits.reclaimHeld), (2, s.reclaimInUse), (2, s.limits.reclaimRecords),
      (2, s.limits.reclaimHeld - s.budget.reclaimHeld), (2, s.openReclaim)] ++ s.budget.reclaimWait.fields ++
    [(2, s.limits.holdUp), (2, s.limits.highWater), (2, s.budget.total), (2, s.budget.unused), (2, s.tenantInUse)]) := by
  simp only [State.reclaimReport, two_field, waitField_field, State.budgetReport_field, ← fieldBytes_append,
    List.cons_append, List.nil_append]

theorem State.segmentReport_eq (s : State) (y : Seg) : s.segmentReport y = fieldBytes [
      (1, [SegmentState.untracked, .free, .opened, .filled, .closed, .victim, .retired].idxOf (s.segment y).state),
      orOnes 2 (s.segment y).owner, (1, [SegmentClass.tenant, .reclaim, .unknown].idxOf (s.segment y).cls),
      (2, (s.segment y).nextUnit), (2, (s.segment y).doneUnits), (2, (s.segment y).written), (2, (s.segment y).valid),
      (4, (s.segment y).closeSeq.toNat), (1, bitsOf [(s.segment y).short, (s.segment y).failed, (s.segment y).suspect]),
      (2, (s.segment y).nextUnit - (s.segment y).doneUnits),
      orOnes 2 (if (s.segment y).state = .free then some ((s.die y.die).freeQueue.idxOf y.block + 1) else none)] := by
  simp only [State.segmentReport, State.freePosition, one_field, two_orAbsent, two_field, bytes32_field, flagSet_field,
    SegmentState.number_eq, SegmentClass.number_eq, ← fieldBytes_append, List.cons_append,
    List.nil_append]

/-! ### Numbers of listed entries (R94, R184) -/

/-- Two lists without repetition that hold the same elements are of one length. -/
theorem length_eq_of_members {l l' : List Nat} (distinct : l.Nodup) (distinct' : l'.Nodup) (h : ∀ x, x ∈ l ↔ x ∈ l') :
    l.length = l'.length := ((List.perm_ext_iff_of_nodup distinct distinct').mpr h).length_eq

/-- The numbers below n that p holds of, counted over a list of numbers below n and over the others. -/
theorem length_filter_range {n : Nat} {l : List Nat} (p : Nat → Bool) (distinct : l.Nodup) (below : ∀ x ∈ l, x < n) :
    ((List.range n).filter p).length =
      (l.filter p).length + (((List.range n).filter fun x => !l.contains x).filter p).length := by
  have apart : (l ++ (List.range n).filter fun x => !l.contains x).Nodup := by
    refine List.nodup_append.mpr ⟨distinct, List.nodup_range.filter _, fun x hx y hy same => ?_⟩
    have outside := (List.mem_filter.mp hy).2
    simp [← same, hx] at outside
  have perm : (List.range n).Perm (l ++ (List.range n).filter fun x => !l.contains x) := by
    refine (List.perm_ext_iff_of_nodup List.nodup_range apart).mpr fun x => ?_
    rw [List.mem_append, List.mem_filter, List.mem_range]
    by_cases hx : x ∈ l
    · simp [hx, below x hx]
    · simp [hx]
  rw [(perm.filter p).length_eq, List.filter_append, List.length_append]

section
variable {s : State} {d : Nat}

/-- The blocks of die d whose entries are listed. -/
def State.listedBlocks (s : State) (d : Nat) : List Nat :=
  (s.segments.filter fun c => (s.segOfIndex c.1).die = d).map fun c => (s.segOfIndex c.1).block

theorem State.segment_of_listed (canonical : Table.canonical .powerOn s.segments = true) {c : Nat × Segment}
    (h : c ∈ s.segments) : s.segment (s.segOfIndex c.1) = c.2 := by
  rw [State.segment, State.segIndex_segOfIndex]
  exact Table.read_of_mem 0 canonical h

theorem State.listedBlocks_nodup (canonical : Table.canonical .powerOn s.segments = true) : (s.listedBlocks d).Nodup := by
  have ascending : s.segments.Pairwise fun a b => a.1 < b.1 :=
    List.pairwise_map.mp (Table.indices_pairwise Segment.powerOn s.segments 0 canonical).2
  refine List.pairwise_map.mpr ((ascending.filter _).imp_of_mem fun {a b} ha hb less same => ?_)
  have die_a : (s.segOfIndex a.1).die = d := of_decide_eq_true (List.mem_filter.mp ha).2
  have die_b : (s.segOfIndex b.1).die = d := of_decide_eq_true (List.mem_filter.mp hb).2
  have index : a.1 = b.1 := by
    rw [← s.segIndex_segOfIndex a.1, ← s.segIndex_segOfIndex b.1, State.segIndex, State.segIndex, die_a, die_b, same]
  omega

theorem State.listedBlocks_lt (blocks : 1 ≤ s.geo.blocks) : ∀ b ∈ s.listedBlocks d, b < s.geo.blocks := by
  intro b hb
  obtain ⟨c, -, rfl⟩ := List.mem_map.mp hb
  exact Nat.mod_lt _ blocks

theorem State.segment_of_unlisted {b : Nat} (hb : b < s.geo.blocks) (h : b ∉ s.listedBlocks d) :
    s.segment ⟨d, b⟩ = .powerOn := by
  by_contra other
  refine h (List.mem_map.mpr ⟨_, List.mem_filter.mpr ⟨Table.mem_of_read_ne (i := s.segIndex ⟨d, b⟩) other, ?_⟩, ?_⟩)
  · rw [State.segOfIndex_segIndex hb]; exact decide_eq_true rfl
  · rw [State.segOfIndex_segIndex hb]

/-- The listed entries of die d in a state, counted over the die's listed blocks. -/
theorem State.length_listedBlocks_filter (canonical : Table.canonical .powerOn s.segments = true) (st : SegmentState) :
    ((s.listedBlocks d).filter fun b => decide ((s.segment ⟨d, b⟩).state = st)).length =
      ((s.dieEntries d).filter fun e => e.state = st).length := by
  rw [State.listedBlocks, State.dieEntries, List.filter_map, List.filter_map, List.length_map, List.length_map]
  refine congrArg List.length (List.filter_congr fun c hc => ?_)
  obtain ⟨listed, at_die⟩ := List.mem_filter.mp hc
  have name : (⟨d, (s.segOfIndex c.1).block⟩ : Seg) = s.segOfIndex c.1 := by rw [← of_decide_eq_true at_die]
  simp only [Function.comp_apply, name, State.segment_of_listed canonical listed]

theorem State.countInState_eq (canonical : Table.canonical .powerOn s.segments = true) (blocks : 1 ≤ s.geo.blocks)
    (st : SegmentState) : s.countInState d st =
      ((List.range s.geo.blocks).filter fun b => (s.segment ⟨d, b⟩).state = st).length := by
  have distinct := s.listedBlocks_nodup canonical (d := d)
  have below := State.listedBlocks_lt (d := d) blocks
  have entries : (s.dieEntries d).length = (s.listedBlocks d).length := by
    rw [State.listedBlocks, State.dieEntries, List.length_map, List.length_map]
  have all := length_filter_range (fun _ => true) distinct below
  simp only [List.filter_true, List.length_range] at all
  have others : ((List.range s.geo.blocks).filter fun x => !(s.listedBlocks d).contains x).filter
      (fun b => decide ((s.segment ⟨d, b⟩).state = st)) =
      if st = .untracked then (List.range s.geo.blocks).filter fun x => !(s.listedBlocks d).contains x else [] := by
    have state : ∀ b ∈ (List.range s.geo.blocks).filter fun x => !(s.listedBlocks d).contains x,
        (s.segment ⟨d, b⟩).state = .untracked := by
      intro b hb
      obtain ⟨inside, unlisted⟩ := List.mem_filter.mp hb
      rw [State.segment_of_unlisted (List.mem_range.mp inside) (by simpa using unlisted)]
      rfl
    split
    next h => exact List.filter_eq_self.mpr fun b hb => decide_eq_true ((state b hb).trans h.symm)
    next h => exact List.filter_eq_nil_iff.mpr fun b hb same => h ((of_decide_eq_true same).symm.trans (state b hb))
  rw [length_filter_range _ distinct below, State.length_listedBlocks_filter canonical st, others, State.countInState]
  split
  · have rest : s.geo.blocks - (s.dieEntries d).length =
        ((List.range s.geo.blocks).filter fun x => !(s.listedBlocks d).contains x).length := by omega
    rw [rest]
  · rfl

theorem listOf_two (l : List Nat) : listOf two l = fieldBytes ((1, l.length) :: l.map fun b => (2, b)) := by
  have items : l.flatMap two = fieldBytes (l.map fun b => (2, b)) := by
    induction l with
    | nil => rfl
    | cons x xs ih =>
      rw [List.flatMap_cons, ih, two_field, ← fieldBytes_append]
      rfl
  rw [listOf, items, one_field, ← fieldBytes_append]
  rfl

theorem segmentCounts_field (f : SegmentState → Nat) : segmentStates.flatMap (fun st => two (f st)) = fieldBytes
    [(2, f .untracked), (2, f .free), (2, f .opened), (2, f .filled), (2, f .closed), (2, f .victim), (2, f .retired)] := by
  simp only [segmentStates, List.flatMap_cons, List.flatMap_nil, List.append_nil, two_field, ← fieldBytes_append,
    List.cons_append, List.nil_append]

theorem State.dieReport_eq (s : State) (d : Nat) : s.dieReport d = fieldBytes (
      [orOnes 1 ((s.die d).configured.map [Core.core0, .core1].idxOf),
        orOnes 1 ((s.die d).assigned.map [Core.core0, .core1].idxOf), (2, (s.die d).freeQueue.length),
        (1, (s.die d).freeQueue.length)] ++ ((s.die d).freeQueue.map fun b => (2, b)) ++
      [(2, (s.die d).inFlight), (2, s.limits.dieInFlight), (2, (s.die d).openPoints),
        (1, if (s.die d).supplyLow then 1 else 0), (2, (s.die d).slotWait.length), orOnes 2 (s.die d).slotWait.head?,
        (2, s.countInState d .untracked), (2, s.countInState d .free), (2, s.countInState d .opened),
        (2, s.countInState d .filled), (2, s.countInState d .closed), (2, s.countInState d .victim),
        (2, s.countInState d .retired), (1, s.rotation), (4, s.closeSeq.toNat)]) := by
  rw [State.dieReport, segmentCounts_field]
  simp only [coreField_field, listOf_two, one_field, two_field, bytes32_field,
    yes_field, two_orAbsent, ← fieldBytes_append, List.append_assoc, List.cons_append, List.nil_append]

end

/-! ### The report of the device -/

theorem State.dieCores_field (s : State) (k : Nat) : s.dieCores k = fieldBytes
    [orOnes 1 ((s.die k).configured.map [Core.core0, .core1].idxOf),
      orOnes 1 ((s.die k).assigned.map [Core.core0, .core1].idxOf)] := by
  rw [State.dieCores, coreField_field, coreField_field, ← fieldBytes_append]
  rfl

theorem flatMap_fieldBytes {α : Type} (f : α → List (Nat × Nat)) (l : List α) :
    l.flatMap (fun k => fieldBytes (f k)) = fieldBytes (l.flatMap f) := by
  induction l with
  | nil => rfl
  | cons x xs ih => rw [List.flatMap_cons, List.flatMap_cons, ih, fieldBytes_append]

theorem State.mapComplete_eq (s : State) : s.mapComplete =
    s.control.geometry.any fun h => (List.range h.dies).all fun k => (s.die k).configured.isSome := by
  rw [State.mapComplete, State.geo]
  cases s.control.geometry <;> rfl

theorem State.countOpen_eq {s : State} (canonical : Table.canonical .powerOn s.streams = true)
    (free : ∀ k, 1024 ≤ k → (s.stream k).state = .free) (cls : StreamClass) : s.countOpen cls =
      ((List.range 1024).filter fun k => (s.stream k).state ≠ .free && (s.stream k).cls = cls).length := by
  have distinct : s.openStreams.Nodup :=
    ((Table.indices_pairwise Stream.powerOn s.streams 0 canonical).2.imp fun less => Nat.ne_of_lt less).filter _
  refine length_eq_of_members (distinct.filter _) (List.nodup_range.filter _) fun k => ?_
  have below : (s.stream k).state ≠ .free → k < 1024 := fun used => by
    by_contra far
    exact used (free k (by omega))
  rw [List.mem_filter, List.mem_filter, State.mem_openStreams, List.mem_range, Bool.and_eq_true, decide_eq_true_eq,
    decide_eq_true_eq]
  exact ⟨fun ⟨used, same⟩ => ⟨below used, used, same⟩, fun ⟨_, used, same⟩ => ⟨used, same⟩⟩

theorem State.batchesInFlight_eq {s : State} (canonical : Table.canonical .powerOn s.slots = true)
    (empty : ∀ k, 512 ≤ k → (s.slot k).batch = none) :
    s.batchesInFlight = ((List.range 512).filter fun k => (s.slot k).batch.isSome).length := by
  have named : s.batchesInFlight = ((Table.indices s.slots).filter fun k => (s.slot k).batch.isSome).length := by
    rw [State.batchesInFlight, Table.indices, List.filter_map, List.length_map]
    refine congrArg List.length (List.filter_congr fun c hc => ?_)
    rw [Function.comp_apply, State.slot, Table.read_of_mem 0 canonical hc]
  have distinct : (Table.indices s.slots).Nodup :=
    (Table.indices_pairwise Slot.powerOn s.slots 0 canonical).2.imp fun less => Nat.ne_of_lt less
  rw [named]
  refine length_eq_of_members (distinct.filter _) (List.nodup_range.filter _) fun k => ?_
  rw [List.mem_filter, List.mem_filter, List.mem_range]
  refine and_congr_left fun some => ⟨fun _ => ?_, fun _ => ?_⟩
  · by_contra far
    rw [empty k (by omega)] at some
    exact Bool.false_ne_true some
  · refine Table.mem_indices .powerOn _ _ fun same => ?_
    rw [State.slot, same] at some
    exact Bool.false_ne_true some

/-- The fields of R184 ahead of the die map. -/
def State.deviceHead (s : State) : List (Nat × Nat) :=
  [(1, [DeviceState.config, .run, .drain, .drained].idxOf s.device),
    (1, if s.control.powerFail then 1 else 0), (4, s.tick.toNat), orOnes 1 (s.control.geometry.map Geometry.dies),
    orOnes 2 (s.control.geometry.map Geometry.blocks), orOnes 2 (s.control.geometry.map Geometry.units),
    orOnes 1 (s.control.geometry.map Geometry.sectors), (1, if s.control.geometry.isSome then 1 else 0),
    (1, if s.control.locked then 1 else 0), orOnes 2 (s.control.geometry.map fun h => h.units * h.sectors),
    (2, s.limits.holdUp), (2, s.limits.reclaimHeld), (2, s.limits.reclaimRecords), (2, s.limits.dieInFlight),
    (2, s.limits.reclaimTimeout), (2, s.limits.highWater), (2, s.limits.batchDeadline),
    (1, [OverdueMode.report, .takeover].idxOf s.limits.overdue), (2, s.limits.failureLimit), (2, s.limits.lowWater)]

/-- The fields of R184 behind the die map. -/
def State.deviceTail (s : State) : List (Nat × Nat) :=
  [(1, if s.mapComplete then 1 else 0), (1, [CoreState.active, .failed].idxOf s.cores.core0),
    (1, [CoreState.active, .failed].idxOf s.cores.core1), (4, s.closeSeq.toNat), (1, s.rotation),
    (2, s.countOpen .tenant), (2, s.countOpen .reclaim), (2, s.waitSupply.length), (2, s.tenantInUse),
    (2, s.reclaimInUse), (2, s.pendingReports), (2, s.batchesInFlight), (2, s.queues.core0.length),
    (2, s.queues.core1.length), (2, s.queues.parked.length)]

theorem State.deviceHead_field (s : State) : one s.device.number ++ yes s.control.powerFail ++ bytes32 s.tick ++
    geometryField s.control.geometry ++ yes s.control.geometry.isSome ++ yes s.control.locked ++
    orAbsent 2 (fun g => two g.capacity) s.control.geometry ++ limitsField s.limits = fieldBytes s.deviceHead := by
  have capacity : orAbsent 2 (fun g => two (Geometry.capacity g)) s.control.geometry =
      fieldBytes [orOnes 2 (s.control.geometry.map fun h => h.units * h.sectors)] :=
    orAbsent_field (fun _ => two_eq _) _
  rw [capacity]
  simp only [State.deviceHead, geometryField_field, limitsField_field, one_field, bytes32_field, yes_field,
    DeviceState.number_eq, ← fieldBytes_append, List.cons_append, List.nil_append]

theorem State.deviceTail_field (s : State) : yes s.mapComplete ++ (one s.cores.core0.number ++
    (one s.cores.core1.number ++ (bytes32 s.closeSeq ++ (one s.rotation ++ (two (s.countOpen .tenant) ++
    (two (s.countOpen .reclaim) ++ (two s.waitSupply.length ++ (two s.tenantInUse ++ (two s.reclaimInUse ++
    (two s.pendingReports ++ (two s.batchesInFlight ++ (two s.queues.core0.length ++ (two s.queues.core1.length ++
    two s.queues.parked.length))))))))))))) = fieldBytes s.deviceTail := by
  simp only [State.deviceTail, one_field, two_field, bytes32_field, yes_field, CoreState.number_eq, ← fieldBytes_append,
    List.cons_append, List.nil_append]

/-- The two cores of each of the dies l (R184). -/
def State.coresOf (s : State) (l : List Nat) : List (Nat × Nat) :=
  l.flatMap fun k => [orOnes 1 ((s.die k).configured.map [Core.core0, .core1].idxOf),
    orOnes 1 ((s.die k).assigned.map [Core.core0, .core1].idxOf)]

theorem State.coresOf_field (s : State) (l : List Nat) : l.flatMap s.dieCores = fieldBytes (s.coresOf l) :=
  (List.flatMap_congr fun k _ => s.dieCores_field k).trans (flatMap_fieldBytes _ _)

theorem State.deviceReport_eq (s : State) :
    s.deviceReport = fieldBytes (s.deviceHead ++ s.coresOf (List.range 64) ++ s.deviceTail) := by
  have cores := s.coresOf_field (List.range 64)
  have dies : Config.dies = 64 := rfl
  rw [fieldBytes_append, fieldBytes_append, ← State.deviceTail_field, ← State.deviceHead_field, ← cores]
  unfold State.deviceReport
  simp only [dies, List.append_assoc]

/-! ### The settlement of O55 -/

section
variable {s : State} {v : Via} {payload : List Byte}

/-- A query's owner leaves the state as it is. -/
theorem exec_query {i : Instr} {code : Code} (hr : s.reaches i = true)
    (ha : requestAct i (s.setLink i.via.port .taken) = ⟨code, payload, s.setLink i.via.port .taken⟩) :
    exec i s = .next (s.answered i code payload) := exec_quiet hr ha rfl rfl

theorem queryStream_effect (x : Half) (hr : s.reaches (.queryStream v x) = true) :
    (1023 < x.toNat → exec (.queryStream v x) s = .next (s.answered (.queryStream v x) .range [])) ∧
    (x.toNat ≤ 1023 → exec (.queryStream v x) s =
      .next (s.answered (.queryStream v x) .ok (s.streamReport x.toNat))) :=
  ⟨fun h => exec_refused hr (if_pos h), fun h => exec_query hr (if_neg (Nat.not_lt.mpr h))⟩

theorem queryFunction_effect (x : Half) (hr : s.reaches (.queryFunction v x) = true) :
    (x.toNat = 0xFFFF → exec (.queryFunction v x) s =
      .next (s.answered (.queryFunction v x) .ok s.reclaimReport)) ∧
    (255 < x.toNat → x.toNat ≠ 0xFFFF → exec (.queryFunction v x) s =
      .next (s.answered (.queryFunction v x) .range [])) ∧
    (x.toNat ≤ 255 → exec (.queryFunction v x) s =
      .next (s.answered (.queryFunction v x) .ok (s.functionReport x.toNat))) := by
  have account : x = 0xFFFF ↔ x.toNat = 0xFFFF :=
    ⟨fun same => congrArg BitVec.toNat same, fun same => BitVec.eq_of_toNat_eq same⟩
  refine ⟨fun h => exec_query hr (if_pos (account.mpr h)), fun far other => exec_refused hr ?_,
    fun near => exec_query hr ?_⟩
  · exact (if_neg (mt account.mp other)).trans (if_pos far)
  · exact (if_neg (mt account.mp (by omega))).trans (if_neg (Nat.not_lt.mpr near))

theorem querySegment_effect (g : SegmentName) (hr : s.reaches (.querySegment v g) = true) :
    (s.control.geometry = none → exec (.querySegment v g) s = .next (s.answered (.querySegment v g) .state [])) ∧
    (s.control.geometry ≠ none → ¬ (g.die.toNat < s.geo.dies ∧ g.block.toNat < s.geo.blocks) →
      exec (.querySegment v g) s = .next (s.answered (.querySegment v g) .range [])) ∧
    (s.control.geometry ≠ none → g.die.toNat < s.geo.dies ∧ g.block.toNat < s.geo.blocks →
      exec (.querySegment v g) s =
        .next (s.answered (.querySegment v g) .ok (s.segmentReport ⟨g.die.toNat, g.block.toNat⟩))) := by
  have known : s.hasSegment (segOf g) = true ↔ g.die.toNat < s.geo.dies ∧ g.block.toNat < s.geo.blocks := by
    rw [State.hasSegment, Bool.and_eq_true, decide_eq_true_eq, decide_eq_true_eq, segOf]
  refine ⟨fun absent => exec_refused hr (if_pos absent), fun valid outside => exec_refused hr ?_,
    fun valid inside => exec_query hr ?_⟩
  · have unknown : (!(s.setLink v.port .taken).hasSegment (segOf g)) = true := by
      rw [Bool.not_eq_true']
      exact Bool.eq_false_iff.mpr (mt known.mp outside)
    exact (if_neg valid).trans (if_pos unknown)
  · have inGeometry : ¬ (!(s.setLink v.port .taken).hasSegment (segOf g)) = true := by
      rw [Bool.not_eq_true', Bool.not_eq_false]
      exact known.mpr inside
    exact (if_neg valid).trans (if_neg inGeometry)

theorem queryDie_effect (d : Byte) (hr : s.reaches (.queryDie v d) = true) :
    (s.control.geometry = none → exec (.queryDie v d) s = .next (s.answered (.queryDie v d) .state [])) ∧
    (s.control.geometry ≠ none → s.geo.dies ≤ d.toNat →
      exec (.queryDie v d) s = .next (s.answered (.queryDie v d) .range [])) ∧
    (s.control.geometry ≠ none → d.toNat < s.geo.dies →
      exec (.queryDie v d) s = .next (s.answered (.queryDie v d) .ok (s.dieReport d.toNat))) :=
  ⟨fun absent => exec_refused hr (if_pos absent),
    fun valid far => exec_refused hr ((if_neg valid).trans (if_pos far)),
    fun valid near => exec_query hr ((if_neg valid).trans (if_neg (Nat.not_le.mpr near)))⟩

end

/-- Settles O55: a query's owner leaves the state as it is, and each report is its fields, one after another. -/
theorem queriesReportAndChangeNothing : Obligations.QueriesReportAndChangeNothing := by
  intro v x g d s answers refused n y known flag core port segment wait shared st used sealing cut fr headroom flush seg
  refine ⟨queryStream_effect x, queryFunction_effect x, querySegment_effect g, queryDie_effect d,
    fun hr => exec_query hr rfl, ?_, ?_, ?_, s.segmentReport_eq y, ?_, ?_⟩
  · rw [s.streamReport_eq]
    have seals : sealing = (s.stream n).sealing.fields := by
      simp only [sealing, st]
      cases (s.stream n).sealing <;> rfl
    rw [seals]
  · have waits : wait fr.wait = fr.wait.fields := by
      cases fr.wait <;> rfl
    have flushes : flush = fr.flush.fields := by
      simp only [flush]
      cases fr.flush <;> rfl
    rw [s.functionReport_eq, s.headroom_eq, waits, flushes]
  · have waits : wait s.budget.reclaimWait = s.budget.reclaimWait.fields := by
      cases s.budget.reclaimWait <;> rfl
    rw [s.reclaimReport_eq, waits]
  · intro canonical blocks die count
    have counts : ∀ st, count st = (2, s.countInState d.toNat st) := fun st =>
      congrArg (Prod.mk 2) (State.countInState_eq canonical blocks st).symm
    rw [s.dieReport_eq]
    simp only [counts]
    rfl
  · intro canonical free empty geo l opened
    simp only [State.canonical, Bool.and_eq_true] at canonical
    obtain ⟨⟨⟨⟨⟨⟨-, -⟩, streams⟩, -⟩, -⟩, -⟩, slots⟩ := canonical
    have opens : ∀ cls, opened cls = (2, s.countOpen cls) := fun cls =>
      congrArg (Prod.mk 2) (State.countOpen_eq streams free cls).symm
    rw [s.deviceReport_eq, opens, opens, ← State.mapComplete_eq, ← State.batchesInFlight_eq slots empty]
    rfl

end Sys2Proof.Machine
end

section
/-! An expired batch deadline (R122 to R127): the settlement of O57. -/

namespace Sys2Proof.Machine

theorem exec_batchDeadlineExpiry (n : Nat) (s : State) :
    exec (.batchDeadlineExpiry n) s = .next (settle s (s.expireDeadline n)) := rfl

section
variable {s : State} {n : Nat} {b : Batch} {deadline : Word} {c o : Core}

/-- The deadline of the batch that core c has TAKEN in slot n. -/
theorem State.expireDeadline_taken (hb : (s.slot n).batch = some b) (phase : b.phase = .taken deadline)
    (place : b.place = .core c) : s.expireDeadline n =
      if passed s.tick deadline && !b.overdue then s.expireBatch n b c else s := by
  simp only [State.expireDeadline, hb, phase, place]

theorem State.expireDeadline_early (hb : (s.slot n).batch = some b) (phase : b.phase = .taken deadline)
    (place : b.place = .core c) (h : 2 ^ 31 ≤ (s.tick - deadline).toNat ∨ b.overdue = true) :
    s.expireDeadline n = s := by
  refine (State.expireDeadline_taken hb phase place).trans (if_neg ?_)
  rw [passed, Bool.and_eq_true, decide_eq_true_eq, Bool.not_eq_true']
  rintro ⟨reached, unmarked⟩
  rcases h with ahead | marked
  · omega
  · rw [marked] at unmarked; cases unmarked

theorem State.expireDeadline_due (hb : (s.slot n).batch = some b) (phase : b.phase = .taken deadline)
    (place : b.place = .core c) (due : (s.tick - deadline).toNat < 2 ^ 31) (unmarked : b.overdue = false) :
    s.expireDeadline n = s.expireBatch n b c := by
  refine (State.expireDeadline_taken hb phase place).trans (if_pos ?_)
  rw [passed, decide_eq_true due, unmarked]
  rfl

/-- REPORT mode (R122): both mapping ports are told, and the batch is marked. -/
theorem State.expireBatch_reports (mode : s.limits.overdue = .report) :
    s.Does (s.expireBatch n b c) (s.markOverdue n b) fun q => if q = .mp0 ∨ q = .mp1 then
      [.batchOverdue n (s.slot n).gen c] else [] := by
  have told := (State.Does.refl s).emitToCores (.batchOverdue n (s.slot n).gen c)
  have marked := told.map (fun x => x.markOverdue n b) (fun _ _ => rfl) fun _ => rfl
  rw [State.expireBatch, mode]
  exact marked.told_eq fun q => List.nil_append _

/-! ### The core fails and its dies are reassigned (R124) -/

theorem State.mem_diesOf (d : Nat) : d ∈ s.diesOf c ↔ (s.die d).assigned = some c := by
  rw [State.diesOf, List.mem_filter, decide_eq_true_eq]
  refine and_iff_right_of_imp fun h => Table.mem_indices .powerOn _ _ fun same => ?_
  have none_ : (s.die d).assigned = none := congrArg Die.assigned same
  rw [h] at none_
  cases none_

theorem State.foldl_reassign_rest (ds : List Nat) : ds.foldl (State.reassign (some o)) s =
    { s with dies := (ds.foldl (State.reassign (some o)) s).dies } := by
  induction ds generalizing s with
  | nil => rfl
  | cons d ds ih => exact ih (s := s.reassign (some o) d)

theorem State.foldl_reassign_die (ds : List Nat) (d : Nat) : (ds.foldl (State.reassign (some o)) s).die d =
    if d ∈ ds then { s.die d with assigned := some o } else s.die d := by
  induction ds generalizing s with
  | nil => simp
  | cons x ds ih =>
    rw [List.foldl_cons, ih, State.reassign, State.setDie_die]
    by_cases hd : d = x
    · subst hd; simp
    · simp [hd]

/-- Core c has FAILED and its dies are core o's. -/
def State.handedOver (s : State) (c o : Core) : State := (s.diesOf c).foldl (State.reassign (some o)) (s.failCore c)

theorem State.failCore_rest : s.failCore c = { s with cores := (s.failCore c).cores } := by cases c <;> rfl

theorem State.handedOver_rest : s.handedOver c o =
    { s with dies := (s.handedOver c o).dies, cores := (s.failCore c).cores } := by
  have fold := State.foldl_reassign_rest (s := s.failCore c) (o := o) (s.diesOf c)
  have base := congrArg (fun x : State => { x with dies := (s.handedOver c o).dies }) (State.failCore_rest (s := s) (c := c))
  exact fold.trans base

theorem State.handedOver_die (d : Nat) : (s.handedOver c o).die d = { s.die d with
    assigned := if (s.die d).assigned = some c then some o else (s.die d).assigned } := by
  have kept : (s.failCore c).die d = s.die d := by rw [State.failCore_rest]; rfl
  have die := State.foldl_reassign_die (s := s.failCore c) (o := o) (s.diesOf c) d
  rw [kept] at die
  refine die.trans ?_
  by_cases own : (s.die d).assigned = some c
  · rw [if_pos ((State.mem_diesOf d).mpr own), if_pos own]
  · rw [if_neg (mt (State.mem_diesOf d).mp own), if_neg own]

/-! ### The failed core's queue moves (R126) -/

/-- A slot whose batch, if any, is at a place. -/
def Slot.placed (x : Slot) (pl : Place) : Slot := { x with batch := x.batch.map fun y => { y with place := pl } }

theorem State.movePlace_rest (pl : Place) (m : Nat) : s.movePlace pl m = { s with slots := (s.movePlace pl m).slots } := by
  unfold State.movePlace
  cases (s.slot m).batch <;> rfl

theorem State.movePlace_slot (pl : Place) (m x : Nat) :
    (s.movePlace pl m).slot x = if x = m then (s.slot m).placed pl else s.slot x := by
  cases hb : (s.slot m).batch with
  | none =>
    have same : (s.slot m).placed pl = s.slot m := by
      rw [Slot.placed, hb, Option.map_none, ← hb]
    simp only [State.movePlace, hb, same]
    split
    · rename_i h; rw [h]
    · rfl
  | some y =>
    have moved : (s.slot m).placed pl = { s.slot m with batch := some { y with place := pl } } := by
      rw [Slot.placed, hb]; rfl
    simp only [State.movePlace, hb, moved]
    exact State.setSlot_slot ..

theorem State.foldl_movePlace_rest (pl : Place) (ms : List Nat) : ms.foldl (State.movePlace pl) s =
    { s with slots := (ms.foldl (State.movePlace pl) s).slots } := by
  induction ms generalizing s with
  | nil => rfl
  | cons m ms ih =>
    have step := congrArg (fun x : State => { x with slots := (ms.foldl (State.movePlace pl) (s.movePlace pl m)).slots })
      (State.movePlace_rest (s := s) pl m)
    exact (ih (s := s.movePlace pl m)).trans step

theorem State.foldl_movePlace_slot (pl : Place) (ms : List Nat) (x : Nat) : (ms.foldl (State.movePlace pl) s).slot x =
    if x ∈ ms then (s.slot x).placed pl else s.slot x := by
  induction ms generalizing s with
  | nil => simp
  | cons m ms ih =>
    have twice : ((s.slot m).placed pl).placed pl = (s.slot m).placed pl := by
      simp [Slot.placed, Option.map_map, Function.comp_def]
    rw [List.foldl_cons, ih, State.movePlace_slot]
    by_cases hx : x = m
    · subst hx; simp [twice]
    · simp [hx]

theorem State.movePlace_withPorts (pl : Place) (m : Nat) (ps : Ports) :
    (s.withPorts ps).movePlace pl m = (s.movePlace pl m).withPorts ps := by
  have slot : (s.withPorts ps).slot m = s.slot m := rfl
  unfold State.movePlace
  rw [slot]
  cases (s.slot m).batch <;> rfl

theorem State.foldl_movePlace_withPorts (pl : Place) (ms : List Nat) (ps : Ports) :
    ms.foldl (State.movePlace pl) (s.withPorts ps) = (ms.foldl (State.movePlace pl) s).withPorts ps := by
  induction ms generalizing s with
  | nil => rfl
  | cons m ms ih => rw [List.foldl_cons, State.movePlace_withPorts, ih, List.foldl_cons]

/-- The queues with core c's queue moved behind core o's. -/
def Queues.moved (q : Queues) (c o : Core) : Queues :=
  (q.put (.core c) []).put (.core o) (q.at (.core o) ++ q.at (.core c))

theorem State.moveQueue_eq : s.moveQueue c (some o) = (s.queues.at (.core c)).foldl (State.movePlace (.core o))
    { s with queues := s.queues.moved c o } := rfl

theorem State.moveQueue_rest : s.moveQueue c (some o) = { s with
    queues := s.queues.moved c o, slots := (s.moveQueue c (some o)).slots } :=
  State.foldl_movePlace_rest (s := { s with queues := s.queues.moved c o }) _ _

theorem State.moveQueue_slot (m : Nat) : (s.moveQueue c (some o)).slot m =
    if m ∈ s.queues.at (.core c) then (s.slot m).placed (.core o) else s.slot m :=
  State.foldl_movePlace_slot (s := { s with queues := s.queues.moved c o }) _ _ m

theorem State.moveQueue_withPorts (ps : Ports) :
    (s.withPorts ps).moveQueue c (some o) = (s.moveQueue c (some o)).withPorts ps :=
  State.foldl_movePlace_withPorts (s := { s with queues := s.queues.moved c o }) _ _ ps

/-! ### The streams concerned (R125) -/

theorem State.batchOfStream_iff {i m : Nat} {x : Batch} :
    s.batchOfStream i m = some x ↔ (s.slot m).batch = some x ∧ x.stream = i := by
  cases hb : (s.slot m).batch with
  | none =>
    simp only [State.batchOfStream, hb]
    exact iff_of_false nofun fun h => nomatch h.1
  | some y =>
    simp only [State.batchOfStream, hb]
    split
    · rename_i own
      exact ⟨fun same => ⟨same, Option.some.inj same ▸ own⟩, fun h => h.1⟩
    · rename_i other
      exact iff_of_false nofun fun h => other (Option.some.inj h.1 ▸ h.2)

theorem State.takenBy_iff {i : Nat} : s.takenBy c i = true ↔
    ∃ m x, (s.slot m).batch = some x ∧ x.stream = i ∧ x.isTaken = true ∧ x.place = .core c := by
  rw [State.takenBy, List.any_eq_true]
  constructor
  · rintro ⟨m, -, hm⟩
    cases hx : s.batchOfStream i m with
    | none => simp only [hx, Bool.false_eq_true] at hm
    | some x =>
      simp only [hx, Bool.and_eq_true, decide_eq_true_eq] at hm
      obtain ⟨held, own⟩ := State.batchOfStream_iff.mp hx
      exact ⟨m, x, held, own, hm⟩
  · rintro ⟨m, x, held, own, taken, place⟩
    refine ⟨m, Table.mem_indices .powerOn _ _ fun same => ?_, ?_⟩
    · have free : (s.slot m).batch = none := congrArg Slot.batch same
      rw [held] at free; cases free
    · simp only [State.batchOfStream_iff.mpr ⟨held, own⟩, taken, place, decide_true, Bool.and_self]

/-- Core c has TAKEN the batch b in slot n, the only batch it holds and the only one of its stream in flight. -/
structure State.takenAlone (s : State) (n : Nat) (b : Batch) (c : Core) : Prop where
  held : (s.slot n).batch = some b
  taken : b.isTaken = true
  place : b.place = .core c
  only : ∀ m x, (s.slot m).batch = some x → x.stream = b.stream ∨ (x.place = .core c ∧ x.isTaken = true) → m = n

theorem State.takenAlone.streams (h : s.takenAlone n b c) (canonical : Table.canonical .powerOn s.streams = true)
    (used : (s.stream b.stream).state ≠ .free) : s.streamsTakenBy c = [b.stream] := by
  have distinct : (s.streamsTakenBy c).Nodup :=
    ((Table.indices_pairwise Stream.powerOn s.streams 0 canonical).2.imp fun less => Nat.ne_of_lt less).filter _
  refine List.perm_singleton.mp ((List.perm_ext_iff_of_nodup distinct (List.nodup_singleton _)).mpr fun j => ?_)
  rw [State.streamsTakenBy, List.mem_filter, State.takenBy_iff, List.mem_singleton]
  constructor
  · rintro ⟨-, m, x, held, own, taken, place⟩
    obtain rfl := h.only m x held (.inr ⟨place, taken⟩)
    rw [h.held] at held
    exact own.symm.trans (congrArg Batch.stream (Option.some.inj held)).symm
  · rintro rfl
    exact ⟨Table.mem_indices Stream.powerOn _ _ fun same => used (congrArg Stream.state same),
      n, b, h.held, rfl, h.taken, h.place⟩

theorem State.takenAlone.flies (h : s.takenAlone n b c) (canonical : Table.canonical .powerOn s.slots = true) :
    s.flies b.stream n [] :=
  ⟨fun m => ⟨fun ⟨x, held, own⟩ => .inl (h.only m x held (.inl own)), fun same =>
    ⟨b, by rw [same.resolve_right List.not_mem_nil]; exact h.held, rfl⟩⟩, List.pairwise_singleton _ _, canonical⟩

theorem State.takenAlone.diesInFlight (h : s.takenAlone n b c) : ∀ d ∈ s.diesInFlight [b.stream], d = b.seg.die := by
  intro d hd
  have inFlight := (List.mem_filter.mp hd).2
  rw [List.any_cons, List.any_nil, Bool.or_false, List.any_eq_true] at inFlight
  obtain ⟨m, hm, die⟩ := inFlight
  obtain ⟨x, held, own⟩ := (State.mem_flightOf m).mp hm
  obtain rfl := h.only m x held (.inl own)
  simp only [h.held, decide_eq_true_eq] at die
  exact die.symm

/-! ### The takeover of one stream (R125) -/

/-- A stream that has lost its write point, and k batches, to a takeover. -/
def Stream.takenOver (st : Stream) (k : Nat) : Stream :=
  { st with state := .idle, writePoint := none, inFlight := st.inFlight - k, sealing := .disarmed }

theorem State.takenOver_seal {w : State} {i k : Nat} {st : Stream} (stream : w.stream i = st.failed k)
    (device : w.device = .run) (tenant : st.cls = .tenant) (enabled : (w.function st.owner).state = .enabled)
    (flush : (w.function st.owner).flush = .none) (timeout : (w.function st.owner).timeout = 0) :
    w.setSeal i = w.setStream i (st.takenOver k) := by
  have calm : w.calm i := by
    rw [State.calm, stream]
    exact ⟨by simp [Stream.failed], device.trans_ne (by decide), fun _ => ⟨enabled.trans_ne (by decide), flush⟩⟩
  have untimed : w.sealTimeout i = 0 := by
    have cls : (w.stream i).cls = .tenant := by rw [stream]; exact tenant
    have owner : (w.stream i).owner = st.owner := by rw [stream]; rfl
    simp only [State.sealTimeout, cls, owner]
    exact timeout
  rw [State.setSeal, State.sealFor_untimed calm untimed, stream]
  rfl

theorem State.takeoverStream_one (held : (s.slot n).batch = some b) (flight : s.flightInOrder b.stream = [n]) :
    s.takeoverStream b.stream = ((s.rewound b [n]).loseSegment b.stream b.seg).setSeal b.stream := by
  simp only [State.takeoverStream, flight, held]
  rfl

/-- The TENANT stream of a batch, in RUN, whose function is ENABLED with no flush and no seal timeout. -/
structure State.untimedTenant (s : State) (i : Nat) : Prop where
  device : s.device = .run
  tenant : (s.stream i).cls = .tenant
  enabled : (s.function (s.stream i).owner).state = .enabled
  flush : (s.function (s.stream i).owner).flush = .none
  timeout : (s.function (s.stream i).owner).timeout = 0

theorem State.takeoverStream_does {e : Extent} (alone : s.takenAlone n b c) (flies : s.flies b.stream n [])
    (h : s.losable b.stream b.seg o) (r : s.rewinds b e [] [] []) (u : s.untimedTenant b.stream) :
    s.Does (s.takeoverStream b.stream) (s.lostAs b 1 ((s.stream b.stream).takenOver 1) (s.rewound b [n]))
      (fun q => if q = .rp ∨ q = o.port then [s.brokenEvent b.stream b.seg] else []) := by
  have lose := h.loses r [n]
  rw [State.takeoverStream_one alone.held flies.inOrder]
  generalize (s.rewound b [n]).loseSegment b.stream b.seg = w at lose
  obtain ⟨stream, -, control, functions, -⟩ := h.left lose
  have function (f : Nat) : w.function f = s.function f := congrArg (Table.read Function.powerOn · f) functions
  have disarmed := State.takenOver_seal stream (by rw [State.device, control]; exact u.device) u.tenant
    (by rw [function]; exact u.enabled) (by rw [function]; exact u.flush) (by rw [function]; exact u.timeout)
  have does := lose.map (fun x => x.setStream b.stream ((s.stream b.stream).takenOver 1)) (fun _ _ => rfl) fun _ => rfl
  rw [State.lostTo, State.lostAs_setStream _ _ _ (by exact nofun)] at does
  exact disarmed ▸ does

/-! ### The takeover whole (R124 to R127) -/

theorem State.foldl_slotArbiter_stops (ds : List Nat) (h : ∀ d ∈ ds, (s.die d).slotWait = []) :
    ds.foldl State.slotArbiter s = s := by
  induction ds with
  | nil => rfl
  | cons d ds ih =>
    rw [List.foldl_cons, State.slotArbiter_stops (.inl (h d List.mem_cons_self))]
    exact ih fun x hx => h x (List.mem_cons_of_mem _ hx)

/-- A takeover as far as its event, with one stream concerned. -/
def State.takenFrom (s : State) (c o : Core) (i : Nat) : State :=
  (((s.handedOver c o).takeoverStream i).moveQueue c (some o)).emitToCores
    (.coreTakeover c (some o) (s.diesOf c).length 1)

theorem State.takeover_eq {i : Nat} (survives : s.survivor c = some o) (streams : s.streamsTakenBy c = [i]) :
    s.takeover c = ((s.diesInFlight [i]).foldl State.slotArbiter (s.takenFrom c o i)).test i := by
  unfold State.takeover
  rw [survives, streams]
  rfl

/-- The state, apart from the ports, after a takeover that concerns the stream of batch b alone. -/
def State.takenOver (s : State) (c o : Core) (n : Nat) (b : Batch) : State :=
  ((s.handedOver c o).lostAs b 1 ((s.stream b.stream).takenOver 1) ((s.handedOver c o).rewound b [n])).moveQueue c (some o)

/-- What a takeover by core o that concerns the stream of batch b alone finds. -/
structure State.oneTakenOver (s : State) (n : Nat) (b : Batch) (e : Extent) (c o : Core) : Prop where
  alone : s.takenAlone n b c
  canonical : s.canonical = true
  survives : s.survivor c = some o
  losable : s.losable b.stream b.seg c
  extents : b.extents = [e]
  chain : (s.stream b.stream).chain = [e.record]
  tenant : s.untimedTenant b.stream
  few : (s.record e.record).stop < s.geo.sectors + (e.lba - (s.record e.record).lba).toNat

namespace State.oneTakenOver
variable {e : Extent}

/-- The tables that handing the dies over leaves alone. -/
theorem handed (h : s.oneTakenOver n b e c o) : (s.handedOver c o).losable b.stream b.seg o ∧
    (s.handedOver c o).rewinds b e [] [] [] ∧ (s.handedOver c o).takenAlone n b c ∧
    (s.handedOver c o).untimedTenant b.stream := by
  have die := State.handedOver_die (s := s) (c := c) (o := o) b.seg.die
  rw [h.losable.assigned, if_pos rfl] at die
  obtain ⟨opened, owner, point, finishing, active, slots, -⟩ := h.losable
  obtain ⟨held, taken, place, only⟩ := h.alone
  obtain ⟨device, tenant, enabled, flush, timeout⟩ := h.tenant
  rw [State.handedOver_rest] at die ⊢
  exact ⟨⟨opened, owner, point, finishing, active, by rw [die]; exact slots, by rw [die]⟩,
    ⟨h.extents, h.chain, List.not_mem_nil⟩, ⟨held, taken, place, only⟩, ⟨device, tenant, enabled, flush, timeout⟩⟩

theorem slots_canonical (h : s.oneTakenOver n b e c o) : Table.canonical .powerOn s.slots = true ∧
    Table.canonical .powerOn s.streams = true := by
  have canonical := h.canonical
  simp only [State.canonical, Bool.and_eq_true] at canonical
  obtain ⟨⟨⟨⟨⟨⟨-, -⟩, streams⟩, -⟩, -⟩, -⟩, slots⟩ := canonical
  exact ⟨slots, streams⟩

theorem takenFrom_does (h : s.oneTakenOver n b e c o) : s.Does (s.takenFrom c o b.stream) (s.takenOver c o n b)
    (fun q => (if q = .rp ∨ q = o.port then [s.brokenEvent b.stream b.seg] else []) ++
      if q = .mp0 ∨ q = .mp1 then [.coreTakeover c (some o) (s.diesOf c).length 1] else []) := by
  obtain ⟨losable, rewinds, alone, tenant⟩ := h.handed
  have same := State.handedOver_rest (s := s) (c := c) (o := o)
  have slots : Table.canonical .powerOn (s.handedOver c o).slots = true := by rw [same]; exact h.slots_canonical.1
  have taken := State.takeoverStream_does alone (alone.flies slots) losable rewinds tenant
  have moved := taken.map (fun x => x.moveQueue c (some o)) (fun _ ps => State.moveQueue_withPorts ps)
    fun _ => by rw [State.moveQueue_rest]
  have event : (s.handedOver c o).brokenEvent b.stream b.seg = s.brokenEvent b.stream b.seg := by rw [same]; rfl
  have stream : (s.handedOver c o).stream b.stream = s.stream b.stream := by rw [same]; rfl
  have told := moved.emitToCores (.coreTakeover c (some o) (s.diesOf c).length 1)
  rw [event, stream] at told
  exact told.after (by rw [same])

/-- What the takeover leaves of the tables that the arbiters and the cutter read. -/
theorem left (h : s.oneTakenOver n b e c o) {t : State} {told : Port → List Event}
    (does : s.Does t (s.takenOver c o n b) told) : t.stream b.stream = (s.stream b.stream).takenOver 1 ∧
      (t.die b.seg.die).slotWait = [] ∧ t.control = s.control ∧
      t.records = ((s.handedOver c o).rewound b [n]).records := by
  have rest := does.rest
  rw [State.takenOver, State.moveQueue_rest] at rest
  refine ⟨?_, ?_, ?_, ?_⟩
  · rw [rest]; exact State.lostAs_stream 1 _ ((s.handedOver c o).rewound b [n])
  · have die : t.die b.seg.die = ((s.handedOver c o).die b.seg.die).failed 1 := by
      rw [rest]; exact State.setDie_die_same ..
    rw [die]
    exact h.handed.1.slots
  · rw [rest, State.handedOver_rest]; rfl
  · rw [rest]; rfl

theorem few_left (h : s.oneTakenOver n b e c o) {t : State} {told : Port → List Event}
    (does : s.Does t (s.takenOver c o n b) told) : t.cutDue b.stream = false := by
  obtain ⟨stream, -, control, records⟩ := h.left does
  obtain ⟨-, rewinds, -, -⟩ := h.handed
  have same := State.handedOver_rest (s := s) (c := c) (o := o)
  have fewer : ((s.handedOver c o).rewound b [n]).stream b.stream = ((s.handedOver c o).stream b.stream).fewer 1 := by
    rw [rewinds.rest]; exact State.setStream_stream_same ..
  have chain : (t.stream b.stream).chain = (((s.handedOver c o).rewound b [n]).stream b.stream).chain := by
    rw [stream, fewer, same]; rfl
  have uncut := rewinds.uncut (by rw [rewinds.chain]; exact List.nodup_singleton _) [n]
  have record : (s.handedOver c o).record e.record = s.record e.record := by rw [same]; rfl
  rw [record, List.map_nil, List.map_nil, List.sum_nil, Nat.zero_add, Nat.add_zero,
    ← State.uncut_congr chain records] at uncut
  have geo : t.geo = s.geo := by rw [State.geo, State.geo, control]
  have unsealed : (t.stream b.stream).sealing ≠ .pending := by rw [stream]; exact nofun
  have few := h.few
  refine State.cutDue_of_few ?_
  rw [uncut, geo]
  by_cases all : (s.record e.record).stop ≤ (e.lba - (s.record e.record).lba).toNat
  · exact .inl (Nat.sub_eq_zero_of_le all)
  · exact .inr ⟨by omega, unsealed⟩

/-- R124 to R127: nothing else comes of the takeover. -/
theorem does (h : s.oneTakenOver n b e c o) : s.Does (s.takeover c) (s.takenOver c o n b)
    (fun q => (if q = .rp ∨ q = o.port then [s.brokenEvent b.stream b.seg] else []) ++
      if q = .mp0 ∨ q = .mp1 then [.coreTakeover c (some o) (s.diesOf c).length 1] else []) := by
  have taken := h.takenFrom_does
  have streams := h.alone.streams h.slots_canonical.2 (h.losable.active.trans_ne (by decide))
  obtain ⟨-, slots, -, -⟩ := h.left taken
  have granted := State.foldl_slotArbiter_stops (s := s.takenFrom c o b.stream) (s.diesInFlight [b.stream])
    fun d hd => by rw [h.alone.diesInFlight d hd]; exact slots
  rw [State.takeover_eq h.survives streams, granted, State.test_idle (h.few_left taken)]
  exact taken

end State.oneTakenOver

theorem Queues.moved_at (q : Queues) (c : Core) : (q.moved c c.other).at (.core c) = [] ∧
    (q.moved c c.other).at (.core c.other) = q.at (.core c.other) ++ q.at (.core c) ∧
    (q.moved c c.other).parked = q.parked := by
  cases c <;> exact ⟨rfl, rfl, rfl⟩

theorem State.failCore_core (c : Core) : (s.failCore c).core c = .failed ∧ (s.failCore c).core c.other = s.core c.other := by
  cases c <;> exact ⟨rfl, rfl⟩

theorem Queues.keep_absent {q : Queues} {n : Nat} (h0 : n ∉ q.core0) (h1 : n ∉ q.core1) (h2 : n ∉ q.parked) :
    (q.keep fun m => !List.contains [n] m) = q := by
  have kept {l : List Nat} (h : n ∉ l) : l.filter (fun m => !List.contains [n] m) = l :=
    List.filter_eq_self.mpr fun m hm => by
      have other : m ≠ n := fun same => h (same ▸ hm)
      simp [other]
  rw [Queues.keep, kept h0, kept h1, kept h2]

/-- The state before the failed core's queue moves. -/
def State.lostBefore (s : State) (c o : Core) (n : Nat) (b : Batch) : State :=
  (s.handedOver c o).lostAs b 1 ((s.stream b.stream).takenOver 1) ((s.handedOver c o).rewound b [n])

theorem State.takenOver_rest : s.takenOver c o n b = { s.lostBefore c o n b with
    queues := (s.lostBefore c o n b).queues.moved c o, slots := (s.takenOver c o n b).slots } := State.moveQueue_rest

namespace State.oneTakenOver
variable {e : Extent} {t : State}

/-- The slots, queues and records that the withdrawn batch leaves (R114, R125). -/
theorem withdrawn (h : s.oneTakenOver n b e c o) : (s.lostBefore c o n b).slots = (s.freedSlots [n]).slots ∧
    (s.lostBefore c o n b).queues = s.queues.keep (fun m => !List.contains [n] m) ∧
    (s.lostBefore c o n b).records = (s.setRecord e.record { s.record e.record with
      placed := (e.lba - (s.record e.record).lba).toNat }).records := by
  obtain ⟨-, rewinds, -, -⟩ := h.handed
  obtain ⟨slots, queues⟩ := rewinds.slots [n]
  have eq := rewinds.eq [n]
  have same := State.handedOver_rest (s := s) (c := c) (o := o)
  have records : ((s.handedOver c o).withdraw b.stream b.seg.die [n]).records = s.records := by
    rw [State.withdraw_rest, same]; rfl
  have record : (s.handedOver c o).record e.record = s.record e.record := by rw [same]; rfl
  refine ⟨slots.trans (by rw [same]; rfl), queues.trans ?_, (congrArg State.records eq).trans ?_⟩
  · rw [State.freedSlots_rest, same]
  · rw [List.foldl_nil, record]
    exact congrArg (fun z => Table.write Fragment.powerOn z e.record _) records

/-- The failed core's queue is the survivor's, behind its own (R126). -/
theorem queues_left (h : s.oneTakenOver n b e c o) (away : n ∉ s.queues.core0 ∧ n ∉ s.queues.core1 ∧ n ∉ s.queues.parked)
    (rest : t = { s.takenOver c o n b with ports := t.ports }) : t.queues = s.queues.moved c o := by
  obtain ⟨-, queues, -⟩ := h.withdrawn
  rw [rest, State.takenOver_rest, queues, Queues.keep_absent away.1 away.2.1 away.2.2]

theorem slot_left (h : s.oneTakenOver n b e c o) (away : n ∉ s.queues.core0 ∧ n ∉ s.queues.core1 ∧ n ∉ s.queues.parked)
    (rest : t = { s.takenOver c o n b with ports := t.ports }) (m : Nat) : t.slot m =
      if m = n then { gen := (s.slot n).gen + 1, batch := none }
      else if m ∈ s.queues.at (.core c) then (s.slot m).placed (.core o) else s.slot m := by
  obtain ⟨slots, queues, -⟩ := h.withdrawn
  rw [Queues.keep_absent away.1 away.2.1 away.2.2] at queues
  have before (x : Nat) : (s.lostBefore c o n b).slot x =
      if x ∈ [n] then { gen := (s.slot x).gen + 1, batch := none } else s.slot x :=
    (congrArg (Table.read Slot.powerOn · x) slots).trans (State.freedSlots_slot (List.nodup_singleton n) x)
  have after_ : t.slot m = (s.takenOver c o n b).slot m := by rw [rest]; rfl
  have moved : (s.takenOver c o n b).slot m = if m ∈ (s.lostBefore c o n b).queues.at (.core c) then
      ((s.lostBefore c o n b).slot m).placed (.core o) else (s.lostBefore c o n b).slot m := State.moveQueue_slot m
  have absent : n ∉ s.queues.at (.core c) := by cases c; exacts [away.1, away.2.1]
  rw [after_, moved, queues, before]
  by_cases own : m = n
  · rw [own, if_neg absent, if_pos List.mem_cons_self, if_pos rfl]
  · rw [if_neg own, if_neg (mt List.mem_singleton.mp own)]

theorem die_left (rest : t = { s.takenOver c o n b with ports := t.ports }) (d : Nat) : t.die d = { s.die d with
    assigned := if (s.die d).assigned = some c then some o else (s.die d).assigned
    inFlight := if d = b.seg.die then (s.die d).inFlight - 1 else (s.die d).inFlight
    openPoints := if d = b.seg.die then (s.die d).openPoints - 1 else (s.die d).openPoints } := by
  have left : t.die d = ((s.handedOver c o).setDie b.seg.die (((s.handedOver c o).die b.seg.die).failed 1)).die d := by
    rw [rest, State.takenOver_rest]; rfl
  rw [left, State.setDie_die]
  by_cases own : d = b.seg.die
  · subst own
    rw [if_pos rfl, if_pos rfl, if_pos rfl, State.handedOver_die]
    rfl
  · rw [if_neg own, if_neg own, if_neg own, State.handedOver_die]

theorem stream_left (rest : t = { s.takenOver c o n b with ports := t.ports }) (j : Nat) : t.stream j =
    if j = b.stream then (s.stream b.stream).takenOver 1 else s.stream j := by
  have left : t.stream j = ((s.handedOver c o).setStream b.stream ((s.stream b.stream).takenOver 1)).stream j := by
    rw [rest, State.takenOver_rest]; rfl
  rw [left, State.setStream_stream, State.handedOver_rest]
  rfl

theorem core_left (rest : t = { s.takenOver c o n b with ports := t.ports }) (k : Core) : t.core k = (s.failCore c).core k := by
  have cores : t.cores = (s.failCore c).cores := by
    have handed : (s.handedOver c o).cores = (s.failCore c).cores := by rw [State.handedOver_rest]
    rw [rest, State.takenOver_rest]
    exact handed
  cases k
  · exact congrArg Cores.core0 cores
  · exact congrArg Cores.core1 cores

theorem segments_left (rest : t = { s.takenOver c o n b with ports := t.ports }) : t.segments =
    (s.setSegment b.seg ((s.segment b.seg).broken s.geo.units (s.closeSeq + 1))).segments := by
  have left : t.segments = ((s.handedOver c o).setSegment b.seg (((s.handedOver c o).segment b.seg).broken
      (s.handedOver c o).geo.units ((s.handedOver c o).closeSeq + 1))).segments := by
    rw [rest, State.takenOver_rest]; rfl
  rw [left, State.handedOver_rest]
  rfl

/-- Everything else. -/
theorem rest_left (h : s.oneTakenOver n b e c o) (rest : t = { s.takenOver c o n b with ports := t.ports }) : t = { s.setRecord e.record
    { s.record e.record with placed := (e.lba - (s.record e.record).lba).toNat } with
      streams := t.streams, segments := t.segments, dies := t.dies, closeSeq := s.closeSeq + 1, slots := t.slots
      queues := t.queues, cores := t.cores, ports := t.ports } := by
  obtain ⟨-, -, records⟩ := h.withdrawn
  have left : t = { s.handedOver c o with
      streams := t.streams, segments := t.segments, dies := t.dies, closeSeq := (s.handedOver c o).closeSeq + 1
      records := (s.lostBefore c o n b).records, slots := t.slots, queues := t.queues, cores := t.cores
      ports := t.ports } := by
    rw [State.takenOver_rest] at rest
    generalize (s.takenOver c o n b).slots = slots at rest
    generalize t.ports = ports at rest
    subst rest
    rfl
  rw [records, State.handedOver_rest] at left
  exact left

end State.oneTakenOver

end

/-- Settles O57: both modes by what the expiry does apart from the ports, and the takeover table by table. -/
theorem deadlineExpiryReportsOrTakesOver : Obligations.DeadlineExpiryReportsOrTakesOver := by
  unfold Obligations.DeadlineExpiryReportsOrTakesOver
  intro s n b deadline c held phase place
  have expires := exec_batchDeadlineExpiry n s
  refine ⟨fun early => ?_, fun due unmarked => ⟨fun mode room => ?_, ?_⟩⟩
  · rw [expires, State.expireDeadline_early held phase place early, settle_self]
  · obtain ⟨no_answer, delivers, rest⟩ := settle_does (State.expireBatch_reports (n := n) (b := b) (c := c) mode)
    rw [expires, State.expireDeadline_due held phase place due unmarked]
    refine ⟨_, rfl, no_answer, rest, delivers.tells_of_roomFor room fun q => ?_⟩
    split <;> simp
  · intro mode survivor canonical room i st g seg other queue only queued away0 away1 parked active tenant point finishing
      opened owner assigned slots e extents chain rec' offset few device enabled flush timeout
    have taken (x : Batch) : x.isTaken = true ↔ x.phase ≠ .queued := by
      rw [Batch.isTaken]
      cases x.phase <;> simp
    have h : s.oneTakenOver n b e c c.other :=
      { alone := ⟨held, (taken b).mpr (by rw [phase]; exact nofun), place, fun m x hx concerned =>
          only m x hx (concerned.imp_right fun h => ⟨h.1, (taken x).mp h.2⟩)⟩
        canonical := canonical
        survives := if_pos survivor
        losable := ⟨opened, owner, point, finishing, active, slots, assigned⟩
        extents := extents
        chain := chain
        tenant := ⟨device, tenant, enabled, flush, timeout⟩
        few := few }
    have away : n ∉ s.queues.core0 ∧ n ∉ s.queues.core1 ∧ n ∉ s.queues.parked := ⟨away0, away1, parked⟩
    have expired : s.expireDeadline n = s.takeover c := by
      rw [State.expireDeadline_due held phase place due unmarked, State.expireBatch, mode]
    obtain ⟨no_answer, delivers, rest⟩ := settle_does h.does
    rw [expires, expired]
    generalize settle s (s.takeover c) = t at no_answer delivers rest
    obtain ⟨core_failed, core_other⟩ := State.failCore_core (s := s) c
    have queues := h.queues_left away rest
    obtain ⟨emptied, joined, unparked⟩ := Queues.moved_at s.queues c
    refine ⟨t, rfl, no_answer, h.rest_left rest, ?_, ?_, State.oneTakenOver.die_left rest,
      State.oneTakenOver.stream_left rest, State.oneTakenOver.segments_left rest, h.slot_left away rest, ?_, ?_, ?_,
      delivers.tells_of_roomFor room fun q => ?_⟩
    · rw [State.oneTakenOver.core_left rest]; exact core_failed
    · rw [State.oneTakenOver.core_left rest, core_other]; exact survivor
    · rw [queues]; exact emptied
    · rw [queues]; exact joined
    · rw [queues]; exact unparked
    · rw [List.length_append]
      split <;> split <;> simp

end Sys2Proof.Machine
end
